-- ==== Sys2Proof/Word.lean ====
section
/-! DEFINITION. The plain words of the model: bytes, valves and sources (00_scope.md, Conventions; 06, R98). -/

namespace Sys2Proof

/-- One byte of a frame (R159). -/
abbrev Byte := BitVec 8

/-- One of the twelve valves; valve number `n` of the manual is the value `n - 1` (00_scope.md, Valves). -/
abbrev Valve := Fin 12

/-- The manual's number of a valve, 1 to 12. -/
def valveNumber (v : Valve) : Nat := v.val + 1

/-- The twelve valves in rising number. -/
def allValves : List Valve := [0, 1, 2, 3, 4, 5, 6, 7, 8, 9, 10, 11]

/-- The eight protection sources in rising number, which is falling priority (R98). -/
inductive Source where
  | valveTrip
  | phaseLost
  | linkLost
  | commutationFail
  | refireLimit
  | measureStale
  | levelDegraded
  | orderStale
  deriving DecidableEq, Repr

/-- The fixed number of a source, 0 the highest priority (R98). -/
def sourceNumber : Source → Nat
  | .valveTrip => 0
  | .phaseLost => 1
  | .linkLost => 2
  | .commutationFail => 3
  | .refireLimit => 4
  | .measureStale => 5
  | .levelDegraded => 6
  | .orderStale => 7

/-- The sources in falling priority. -/
def allSources : List Source :=
  [.valveTrip, .phaseLost, .linkLost, .commutationFail, .refireLimit, .measureStale, .levelDegraded, .orderStale]

/-- The lines that carry frames into the part (R159). -/
inductive Line where
  | control
  | measurement
  | ret (v : Valve)
  deriving DecidableEq, Repr

end Sys2Proof
end

