-- ==== Sys2Proof/Syntax.lean ====
section
/-! DEFINITION. The commands of the part, one constructor of `Instr` per row of spec/opcode_table.json, with the records
that the rows carry. Values are held as they are carried: a range is the business of the rule that checks it. -/

namespace Sys2Proof

/-- The role of the station end (R140). -/
inductive Role where
  | rectifier
  | inverter
  deriving DecidableEq, Repr

/-- The resolver's nesting mode (R102, R140). -/
inductive Nesting where
  | nested
  | openMode
  deriving DecidableEq, Repr

/-- The state of one thyristor level (R75). -/
inductive LevelState where
  | unknown
  | healthy
  | suspect
  | failedShort
  | failedNofire
  | excluded
  deriving DecidableEq, Repr

/-- The values of SETUP_PHASE (R140). -/
structure PhaseValues where
  fNom : Nat
  w : Nat
  holdoverLimit : Nat
  deriving DecidableEq, Repr

/-- The values of SETUP_ANGLES but the role (R140). -/
structure AngleValues where
  alphaMin : Nat
  alphaMax : Nat
  alphaStart : Nat
  alphaRetard : Nat
  stepUp : Nat
  stepDown : Nat
  latency : Nat
  dtrim : Int
  gammaRef : Nat
  trainCdeg : Nat
  repeatTicks : Nat
  refireLimit : Nat
  deriving DecidableEq, Repr

/-- The values of SETUP_GUARD but the nesting mode (R140); times in the manual's units. -/
structure GuardValues where
  cfpThreshold : Nat
  cfpBoost : Nat
  cfpHold : Nat
  cfpDecay : Nat
  cfBoost : Nat
  cfHold : Nat
  cfLimit : Nat
  cfWindow : Nat
  retardTime : Nat
  precheckTimeout : Nat
  staleTimeout : Nat
  orderTimeout : Nat
  linkTimeout : Nat
  deriving DecidableEq, Repr

/-- The values of SETUP_LEVELS (R140); `redundancy` is R and `warning` is Rw. -/
structure LevelValues where
  nL : Nat
  redundancy : Nat
  warning : Nat
  missLimit : Nat
  pfLimit : Nat
  deriving DecidableEq, Repr

/-- What TABLE_READ selects (R149). -/
inductive Selector where
  | row (n : Nat)
  | map
  | setup
  deriving DecidableEq, Repr

/-- A request of the pole control with the values it carries. A code that is none of the listed values of its field
(R140, R149, R95) is `none`: the manual gives no codes (log 7). -/
inductive Request where
  | setupBegin
  | setupPhase (v : PhaseValues)
  | setupAngles (role : Option Role) (v : AngleValues)
  | setupGuard (v : GuardValues) (nesting : Option Nesting)
  | setupLevels (v : LevelValues)
  | setupEnd
  | tableWrite (row : Nat) (entries : Vector Nat 8)
  | tableRead (sel : Option Selector)
  | mapWrite (y d : Vector Nat 6)
  | mapLock
  | deblock (tableGen mapGen : Nat)
  | block
  | bypass
  | testStart (alpha count tableGen mapGen : Nat)
  | testSuspend
  | testResume
  | angleOrder (alpha : Nat)
  | phaseRestart
  | restart
  | protMask (sources : List Nat)
  | protEnd (source : Nat)
  | protEndTop
  | protStatus
  | levelLatch
  | levelRead (valve first : Nat)
  | levelFind (valve level : Nat) (states : List (Option LevelState))
  | levelRelease
  | levelClear (valve : Nat) (level : Option Nat)
  | levelExclude (valve level : Nat)
  | status
  | historyRead (offset : Nat)
  deriving DecidableEq, Repr, Inhabited

/-- The 31 request kinds, in the order of their codes (R159). -/
inductive RequestKind where
  | setupBegin | setupPhase | setupAngles | setupGuard | setupLevels | setupEnd
  | tableWrite | tableRead | mapWrite | mapLock
  | deblock | block | bypass | testStart | testSuspend | testResume
  | angleOrder | phaseRestart | restart
  | protMask | protEnd | protEndTop | protStatus
  | levelLatch | levelRead | levelFind | levelRelease | levelClear | levelExclude
  | status | historyRead
  deriving DecidableEq, Repr

/-- The kind of a request. -/
def requestKind : Request → RequestKind
  | .setupBegin => .setupBegin
  | .setupPhase _ => .setupPhase
  | .setupAngles _ _ => .setupAngles
  | .setupGuard _ _ => .setupGuard
  | .setupLevels _ => .setupLevels
  | .setupEnd => .setupEnd
  | .tableWrite _ _ => .tableWrite
  | .tableRead _ => .tableRead
  | .mapWrite _ _ => .mapWrite
  | .mapLock => .mapLock
  | .deblock _ _ => .deblock
  | .block => .block
  | .bypass => .bypass
  | .testStart _ _ _ _ => .testStart
  | .testSuspend => .testSuspend
  | .testResume => .testResume
  | .angleOrder _ => .angleOrder
  | .phaseRestart => .phaseRestart
  | .restart => .restart
  | .protMask _ => .protMask
  | .protEnd _ => .protEnd
  | .protEndTop => .protEndTop
  | .protStatus => .protStatus
  | .levelLatch => .levelLatch
  | .levelRead _ _ => .levelRead
  | .levelFind _ _ _ => .levelFind
  | .levelRelease => .levelRelease
  | .levelClear _ _ => .levelClear
  | .levelExclude _ _ => .levelExclude
  | .status => .status
  | .historyRead _ => .historyRead

/-- The body of a good frame of the control link: a request with a body of its kind's length, a known kind with
another body length (answered RANGE, R164), or a kind code outside 01 to 1F (answered UNKNOWN, R164). -/
inductive FrameBody where
  | request (r : Request)
  | badLength (k : RequestKind)
  | unknownKind (code : Nat)
  deriving DecidableEq, Repr

/-- A good frame of the control link as the request queue holds it (R163): its tag and its body. -/
structure ControlFrame where
  tag : Nat
  body : FrameBody
  deriving DecidableEq, Repr

/-- A RETURN record (R79, R159). Bit for level 1 is the most significant of `present`. -/
structure ReturnRecord where
  valve : Nat
  window : Nat
  present : BitVec 120
  protective : List Nat
  deriving DecidableEq, Repr

/-- The commands of the part: the rows of spec/opcode_table.json. A request row carries no operand of its own: its values
are those of the frame at the head of the request queue, which the row takes (R164). -/
inductive Instr where
  /-- POWER_ON (R136): power-on reset. -/
  | powerOn
  /-- CONTROL_FRAME (R163): a good frame arrives on the control link. -/
  | controlFrame (f : ControlFrame)
  /-- BYTE_GAP_TIMEOUT (R160): the gap on a line has passed 40 ticks inside a frame. -/
  | byteGapTimeout (line : Line)
  /-- RECORD_SENT (R166): the last byte of the oldest outgoing record, whose length byte is `n`, has been sent. -/
  | recordSent (n : Nat)
  /-- UNKNOWN_REQUEST (R164): the port takes a frame of unknown kind. -/
  | unknownRequest
  /-- SETUP_BEGIN (R138). -/
  | setupBegin
  /-- SETUP_PHASE (R139). -/
  | setupPhase
  /-- SETUP_ANGLES (R139). -/
  | setupAngles
  /-- SETUP_GUARD (R139). -/
  | setupGuard
  /-- SETUP_LEVELS (R139). -/
  | setupLevels
  /-- SETUP_END (R142). -/
  | setupEnd
  /-- TABLE_WRITE (R144). -/
  | tableWrite
  /-- TABLE_READ (R149). -/
  | tableRead
  /-- MAP_WRITE (R145). -/
  | mapWrite
  /-- MAP_LOCK (R146). -/
  | mapLock
  /-- DEBLOCK (R119, R123). -/
  | deblock
  /-- BLOCK (R124). -/
  | block
  /-- BYPASS (R126). -/
  | bypass
  /-- TEST_START (R129). -/
  | testStart
  /-- TEST_SUSPEND (R131). -/
  | testSuspend
  /-- TEST_RESUME (R132). -/
  | testResume
  /-- ANGLE_ORDER (R22). -/
  | angleOrder
  /-- PHASE_RESTART (R17). -/
  | phaseRestart
  /-- RESTART (R135). -/
  | restart
  /-- PROT_MASK (R111). -/
  | protMask
  /-- PROT_END (R108). -/
  | protEnd
  /-- PROT_END_TOP (R108). -/
  | protEndTop
  /-- PROT_STATUS (R112). -/
  | protStatus
  /-- LEVEL_LATCH (R92). -/
  | levelLatch
  /-- LEVEL_READ (R94). -/
  | levelRead
  /-- LEVEL_FIND (R95). -/
  | levelFind
  /-- LEVEL_RELEASE (R93). -/
  | levelRelease
  /-- LEVEL_CLEAR (R89). -/
  | levelClear
  /-- LEVEL_EXCLUDE (R90). -/
  | levelExclude
  /-- STATUS (R170). -/
  | status
  /-- HISTORY_READ (R57). -/
  | historyRead
  /-- CROSSING (R157): kind and lag as carried. -/
  | crossing (kind lag : Nat)
  /-- ARMED_EXPIRY (R8). -/
  | armedExpiry
  /-- SAMPLE (R153): sequence number, Id and Uac as carried. -/
  | sample (seq : Nat) (id : Int) (uac : Nat)
  /-- RETURN (R79): a record on the return line of `line`. -/
  | returnRecord (line : Valve) (r : ReturnRecord)
  /-- REAPPEAR (R66): a record naming valve number `valve` on the return line of `line`. -/
  | reappear (line : Valve) (valve : Nat)
  /-- FIRING (R49): the first calendar entry falls due. -/
  | firing
  /-- REPEAT_EXPIRY (R64). -/
  | repeatExpiry (v : Valve)
  /-- TRAIN_END (R65). -/
  | trainEnd (v : Valve)
  /-- CFP_HOLD_EXPIRY (R37). -/
  | cfpHoldExpiry
  /-- ACTION_TIMER_EXPIRY (R107) of a TIMED source. -/
  | actionTimerExpiry (src : Source)
  /-- RUN_WINDOW_EXPIRY (R110). -/
  | runWindowExpiry
  /-- PRECHECK_TIMER_EXPIRY (R122). -/
  | precheckTimerExpiry
  /-- RETARD_TIMER_EXPIRY (R128). -/
  | retardTimerExpiry
  /-- STALE_TIMER_EXPIRY (R154). -/
  | staleTimerExpiry
  /-- LINK_TIMER_EXPIRY (R168). -/
  | linkTimerExpiry
  /-- ORDER_TIMER_EXPIRY (R169). -/
  | orderTimerExpiry
  /-- DISCARDED_FRAME (R160): these bytes have come on a line; its receiver discards the bad frames they end. -/
  | discardedFrame (line : Line) (bytes : List Byte)
  deriving DecidableEq, Repr

end Sys2Proof
end

