-- ==== Sys2Proof/Decode.lean ====
section
/-! DEFINITION. The command that a word spells by the table's bits. spec/opcode_table.json gives no row any bits (all its
field lists are empty), so no word spells a command (log 12). -/

namespace Sys2Proof

/-- The command that the word `w` of `nbits` bits spells by the opcode table: none, since the table has no bits. -/
def decodeTableWord (_nbits _w : Nat) : Option Instr := none

end Sys2Proof
end

