-- ==== Sys2Proof/Config.lean ====
section
/-! DEFINITION. The constants of the part and its default setup values (R140). The free values, which are byte layouts over the
records of the state, stand in Machine/Layouts.lean. -/

namespace Sys2Proof.Config

/-- Capacity of the request queue (R163). -/
def requestQueueCapacity : Nat := 8

/-- Capacity of the outgoing list (R166). -/
def outgoingCapacity : Nat := 32

/-- The most outgoing records with which a request is taken (R164). -/
def takeLimit : Nat := 16

/-- Capacity of the history ring (R56). -/
def ringCapacity : Nat := 64

/-- Most records in one HISTORY_READ reply (R57). -/
def historyReplyLimit : Nat := 8

/-- Most entries in one LEVEL_READ reply (R94). -/
def levelReadLimit : Nat := 32

/-- Most entries examined by one LEVEL_FIND (R95). -/
def levelFindLimit : Nat := 128

/-- Length of a main pulse, in ticks (R62). -/
def mainPulse : Nat := 100

/-- Length of a repeat pulse, in ticks (R62). -/
def repeatPulse : Nat := 40

/-- Length of a probe pulse, in ticks (R62). -/
def probePulse : Nat := 100

/-- Ticks for each byte of an outgoing record (R166). -/
def ticksPerByte : Nat := 8

/-- Most bytes in the body of a frame: the length byte is at most 250 and counts kind and tag (R159). -/
def bodyLimit : Nat := 248

/-- The gap between two bytes of one frame that does not yet end it (R160). -/
def byteGap : Nat := 40

/-- The saturation and wrap value of the 16-bit counts (R11, R77, R83, R130, R148). -/
def maxWord : Nat := 65535

/-- Ticks in a millisecond (00_scope.md, Station time). -/
def ticksPerMs : Nat := 10000

/-- Ticks in a unit of stale_timeout (00_scope.md, Station time). -/
def ticksPerStaleUnit : Nat := 1000

/-- The defaults of SETUP_PHASE (R140). -/
def defaultPhase : PhaseValues where
  fNom := 50
  w := 1000
  holdoverLimit := 18

/-- The default role (R140). -/
def defaultRole : Role := .rectifier

/-- The defaults of SETUP_ANGLES (R140). -/
def defaultAngles : AngleValues where
  alphaMin := 500
  alphaMax := 16500
  alphaStart := 9000
  alphaRetard := 14000
  stepUp := 300
  stepDown := 1000
  latency := 0
  dtrim := 0
  gammaRef := 1700
  trainCdeg := 12000
  repeatTicks := 1000
  refireLimit := 3

/-- The defaults of SETUP_GUARD (R140). -/
def defaultGuard : GuardValues where
  cfpThreshold := 850
  cfpBoost := 1000
  cfpHold := 100
  cfpDecay := 50
  cfBoost := 800
  cfHold := 80
  cfLimit := 4
  cfWindow := 500
  retardTime := 50
  precheckTimeout := 200
  staleTimeout := 20
  orderTimeout := 10
  linkTimeout := 20

/-- The default nesting mode (R140). -/
def defaultNesting : Nesting := .nested

/-- The defaults of SETUP_LEVELS (R140). -/
def defaultLevels : LevelValues where
  nL := 96
  redundancy := 4
  warning := 2
  missLimit := 3
  pfLimit := 2

end Sys2Proof.Config
end

