-- ==== Sys2Proof/Machine/State.lean ====
section
/-! DEFINITION. The state of the part, one structure per block of 00_scope.md's block overview, its reset, and the reasons a
step can stop. A timer is `none` when STOPPED (the order timer: EXPIRED) and otherwise holds its expiry. -/

namespace Sys2Proof.Machine

/-- A set of protection sources. -/
structure SourceSet where
  valveTrip : Bool
  phaseLost : Bool
  linkLost : Bool
  commutationFail : Bool
  refireLimit : Bool
  measureStale : Bool
  levelDegraded : Bool
  orderStale : Bool
  deriving DecidableEq, Repr

/-- The set with no source. -/
def noSources : SourceSet := ⟨false, false, false, false, false, false, false, false⟩

/-! ## Phase Reference Unit (01, 1.1) -/

/-- Lock state of the PRU (R12 to R16). -/
inductive LockState where
  | unlocked
  | acquiring
  | locked
  | holdover
  deriving DecidableEq, Repr

/-- The prediction in force (R4); its armed expiry is `tPred + wEff`. -/
structure Prediction where
  tPred : Nat
  wp : Nat
  wEff : Nat
  deriving DecidableEq, Repr

/-- The Phase Reference Unit. -/
structure Pru where
  lock : LockState
  p : Nat
  tRef : Nat
  k : Nat
  rn : Nat
  pred : Option Prediction
  good : Nat
  flywheel : Nat
  holdover : Nat
  distorted : Nat
  deriving DecidableEq, Repr

/-! ## Angle Computation Unit (02, 2.1) -/

/-- A pending angle order with its apply point (R22). -/
structure PendingOrder where
  angle : Nat
  applyPoint : Nat
  deriving DecidableEq, Repr

/-- The Angle Computation Unit. -/
structure Acu where
  active : Option Nat
  waiting : Option PendingOrder
  aPrev : Nat
  testAngle : Option Nat
  cfpMargin : Nat
  cfpHold : Option Nat
  deriving DecidableEq, Repr

/-! ## Firing Calendar (03, 3.1) -/

/-- Kind of a firing order (R42). -/
inductive OrderKind where
  | normal
  | test
  | bypass
  deriving DecidableEq, Repr

/-- Flags of a firing order (R42). -/
structure OrderFlags where
  limited : Bool
  gammaCapped : Bool
  gammaShort : Bool
  late : Bool
  deriving DecidableEq, Repr

/-- A firing order (R42). -/
structure Order where
  valve : Valve
  kind : OrderKind
  due : Nat
  angle : Option Nat
  mu : Option Nat
  rn : Option Nat
  flags : OrderFlags
  deriving DecidableEq, Repr

/-- A firing record of the history ring (R55). -/
structure FiringRecord where
  number : Nat
  valve : Valve
  kind : OrderKind
  rn : Option Nat
  due : Nat
  firedAt : Nat
  angle : Option Nat
  mu : Option Nat
  flags : OrderFlags
  deriving DecidableEq, Repr

/-- The Firing Calendar; `ring` is newest first. -/
structure Calendar where
  orders : List Order
  created : Nat
  fired : Nat
  discarded : Nat
  ring : List FiringRecord
  deriving DecidableEq, Repr

/-! ## Pulse Generators and emitter lines (04, 4.1) -/

/-- State of a pulse generator. -/
inductive GenMode where
  | off
  | train
  | hold
  deriving DecidableEq, Repr

/-- A pulse generator. -/
structure Generator where
  mode : GenMode
  trainEnd : Option Nat
  repeatAt : Option Nat
  refires : Nat
  litUntil : Option Nat
  deriving DecidableEq, Repr

/-- The kinds of pulse (R62). -/
inductive PulseKind where
  | main
  | repeated
  | probe
  deriving DecidableEq, Repr

/-- A pulse as started on an emitter line, with the window code it carries (R62). -/
structure Pulse where
  kind : PulseKind
  start : Nat
  code : Option Nat
  deriving DecidableEq, Repr

/-- An emitter line: its probe light (R72), and the pulse last started on it (the model's record of the output, log 10). -/
structure Emitter where
  probeUntil : Option Nat
  lastPulse : Option Pulse
  deriving DecidableEq, Repr

/-! ## Level Monitor (05, 5.1) -/

/-- A level entry (R75). -/
structure LevelEntry where
  state : LevelState
  missRun : Nat
  pfRun : Nat
  pfTotal : Nat
  lastChange : Option Nat
  deriving DecidableEq, Repr

/-- What the Level Monitor keeps for one valve; `levels` holds levels 1 to N_L in order. -/
structure ValveMonitor where
  levels : List LevelEntry
  window : Nat
  accepted : Bool
  missingRun : Nat
  lost : Bool
  armed : Bool
  deriving DecidableEq, Repr

/-- A held snapshot (R92). -/
structure Snapshot where
  levels : Vector (List LevelEntry) 12
  failed : Vector Nat 12
  nL : Nat
  latchTime : Nat
  deriving DecidableEq, Repr

/-! ## Protection Resolver (06, 6.1) -/

/-- A source in action, with its grant time. -/
structure InAction where
  source : Source
  grantTime : Nat
  deriving DecidableEq, Repr

/-- The Protection Resolver; `waiting` is the pending set, `inAction` is in grant order, oldest first. -/
structure Resolver where
  waiting : SourceSet
  inAction : List InAction
  repeats : SourceSet
  masks : SourceSet
  cfTimer : Option Nat
  refireTimer : Option Nat
  cfRun : Nat
  runWindow : Option Nat
  tripLine : Bool
  deriving DecidableEq, Repr

/-! ## Converter State Controller (07, 7.1) -/

/-- The converter state. -/
inductive ConvState where
  | unconfigured
  | blocked
  | precheck
  | running
  | bypass
  | retard
  | testing
  | testHeld
  deriving DecidableEq, Repr

/-- Test mode (R129). -/
inductive TestMode where
  | fixed
  | continuous
  deriving DecidableEq, Repr

/-- The Converter State Controller. -/
structure Controller where
  state : ConvState
  precheckTimer : Option Nat
  ready : Vector Bool 12
  retardTimer : Option Nat
  lastY : Option Valve
  lastD : Option Valve
  testMode : TestMode
  programmed : Nat
  remaining : Nat
  wraps : Nat
  testDone : Bool
  deriving DecidableEq, Repr

/-! ## Table Store (08, 8.1) -/

/-- The 35 setup values in force (R140). -/
structure Setup where
  phase : PhaseValues
  role : Role
  angles : AngleValues
  guard : GuardValues
  nesting : Nesting
  levels : LevelValues
  deriving DecidableEq, Repr

/-- One row of the Commutation Table with its mark (R144). -/
structure TableRow where
  written : Bool
  entries : Vector Nat 8
  deriving DecidableEq, Repr

/-- The Table Store. -/
structure Store where
  setup : Setup
  step : Nat
  table : Vector TableRow 33
  tableGen : Nat
  yMap : Vector Valve 6
  dMap : Vector Valve 6
  mapGen : Nat
  mapLock : Bool
  deriving DecidableEq, Repr

/-! ## Measurement Receiver (09, 9.1) -/

/-- The Measurement Receiver. -/
structure Measurement where
  heldId : Nat
  heldUac : Nat
  lastSeq : Option Nat
  staleTimer : Option Nat
  stale : Bool
  deriving DecidableEq, Repr

/-! ## Control Link Port (10, 10.2) -/

/-- Completion codes (R165). -/
inductive Completion where
  | done
  | partialScan
  | found
  | exhausted
  | held
  | state
  | range
  | sequence
  | signature
  | incomplete
  | phase
  | protection
  | redundancy
  | locked
  | noSnapshot
  | unknown
  deriving DecidableEq, Repr

/-- Causes of NOTICE_STATE (R117). -/
inductive StateCause where
  | deblock
  | ready
  | noVoltage
  | redundancy
  | timeout
  | block
  | bypass
  | source (src : Source)
  | retardEnd
  | testStart
  | testSuspend
  | testResume
  | testDone
  | setupBegin
  | setupEnd
  deriving DecidableEq, Repr

/-- The actions of the sources (R98). -/
inductive Action where
  | trip
  | stop
  | advance
  | alarm
  deriving DecidableEq, Repr

/-- Causes of an end (R109). -/
inductive EndCause where
  | host
  | timed
  | cleared
  deriving DecidableEq, Repr

/-- What PROT_STATUS carries (R112). -/
structure ProtectionReport where
  waiting : SourceSet
  inAction : List InAction
  cfExpiry : Option Nat
  refireExpiry : Option Nat
  repeats : SourceSet
  masks : SourceSet
  nesting : Nesting
  cfRun : Nat
  tripLine : Bool
  deriving DecidableEq, Repr

/-- What LEVEL_READ carries (R94). -/
structure LevelReport where
  latchTime : Nat
  nL : Nat
  failed : Nat
  entries : List LevelEntry
  deriving DecidableEq, Repr

/-- What STATUS carries (R170). -/
structure StatusReport where
  state : ConvState
  testMode : TestMode
  programmed : Nat
  remaining : Nat
  wraps : Nat
  testDone : Bool
  lock : LockState
  p : Nat
  rn : Nat
  k : Nat
  distorted : Nat
  activeAlpha : Nat
  pendingOrder : Option PendingOrder
  aPrev : Nat
  cfpMargin : Nat
  calendarCount : Nat
  created : Nat
  fired : Nat
  discarded : Nat
  stale : Bool
  linkSilent : Bool
  noticeLost : Bool
  step : Nat
  time : Nat
  deriving DecidableEq, Repr

/-- The contents of a reply after its completion code. -/
inductive Content where
  | empty
  | tableWritten (gen rows : Nat) (complete : Bool)
  | mapWritten (gen : Nat)
  | tableRow (row : Nat) (r : TableRow) (gen rows : Nat) (complete : Bool)
  | valveMap (y d : Vector Valve 6) (gen : Nat) (locked : Bool)
  | setupValues (v : Setup) (step : Nat)
  | endedSource (src : Source)
  | protection (r : ProtectionReport)
  | latchTime (t : Nat)
  | levels (r : LevelReport)
  | levelFound (valve level : Nat) (e : LevelEntry)
  | levelNext (valve level : Nat)
  | status (r : StatusReport)
  | history (held : Nat) (records : List FiringRecord)
  deriving DecidableEq, Repr

/-- A record of the outgoing list (R165, R167). `noticeState` with no valve carries valve 0. -/
inductive OutRecord where
  | reply (kind : RequestKind) (tag : Nat) (code : Completion) (content : Content)
  | unknownReply (tag kindCode : Nat)
  | noticeState (old new : ConvState) (cause : StateCause) (valve : Option Valve) (time : Nat)
  | noticeGrant (src : Source) (action : Action) (time : Nat)
  | noticeEnd (src : Source) (cause : EndCause) (time : Nat)
  deriving DecidableEq, Repr

/-- The Control Link Port; `requests` and `outgoing` are oldest first, `sendStart` is when the oldest outgoing record
began to be sent, and `lastSent` holds the bytes of the frame last sent (the model's record of the output, log 8). -/
structure Port where
  requests : List ControlFrame
  outgoing : List OutRecord
  sendStart : Option Nat
  noticeLost : Bool
  linkTimer : Option Nat
  linkSilent : Bool
  orderTimer : Option Nat
  lastSent : Option (List Byte)
  deriving DecidableEq, Repr

/-- A line's frame receiver (R160): hunting for a delimiter, awaiting the length byte, or reading the `n + 2` bytes after
it; with the time of the last byte inside a frame. -/
inductive Receiver where
  | hunting
  | awaitLength (lastByte : Nat)
  | reading (n : Nat) (got : List Byte) (lastByte : Nat)
  deriving DecidableEq, Repr

/-- The fourteen receivers (R160). -/
structure Receivers where
  control : Receiver
  measurement : Receiver
  returns : Vector Receiver 12
  deriving DecidableEq, Repr

/-! ## The whole part -/

/-- The state of the part, and the queue of commands waiting for it. -/
structure State where
  now : Nat
  pru : Pru
  acu : Acu
  cal : Calendar
  gens : Vector Generator 12
  emitters : Vector Emitter 12
  monitors : Vector ValveMonitor 12
  snapshot : Option Snapshot
  prot : Resolver
  ctl : Controller
  store : Store
  meas : Measurement
  port : Port
  receivers : Receivers
  pending : List Instr
  deriving DecidableEq, Repr

/-- The part has no fault: no rule of the spec describes an event that stops it. -/
inductive Fault where
  deriving DecidableEq, Repr

/-- Why a step is refused. -/
inductive Refusal where
  /-- Raised by no arm of `exec`: every row of the table has its meaning. Safe. -/
  | notModelled (mnemonic : String)
  deriving DecidableEq, Repr

/-! ## Power-on values -/

/-- A generator at OFF (R71, R74). -/
def generatorOff : Generator := ⟨.off, none, none, 0, none⟩

/-- A level entry as cleared (R89). -/
def levelCleared : LevelEntry := ⟨.unknown, 0, 0, 0, none⟩

/-- The default setup values (R140). -/
def defaultSetup : Setup where
  phase := Config.defaultPhase
  role := Config.defaultRole
  angles := Config.defaultAngles
  guard := Config.defaultGuard
  nesting := Config.defaultNesting
  levels := Config.defaultLevels

/-- The machine after power-on reset: R20, R40, R58, R74, R96, R116, R136, R150, R158, R171. -/
def State.reset : State where
  now := 0
  pru := ⟨.unlocked, 200000, 0, 0, 0, none, 0, 0, 0, 0⟩
  acu := ⟨none, none, 9000, none, 0, none⟩
  cal := ⟨[], 0, 0, 0, []⟩
  gens := Vector.replicate 12 generatorOff
  emitters := Vector.replicate 12 ⟨none, none⟩
  monitors := Vector.replicate 12 ⟨List.replicate 96 levelCleared, 0, false, 0, false, false⟩
  snapshot := none
  prot := ⟨noSources, [], noSources, noSources, none, none, 0, none, false⟩
  ctl := ⟨.unconfigured, none, Vector.replicate 12 false, none, none, none, .fixed, 1, 0, 0, false⟩
  store :=
    { setup := defaultSetup
      step := 0
      table := Vector.replicate 33 ⟨false, Vector.replicate 8 0⟩
      tableGen := 0
      yMap := #v[0, 1, 2, 3, 4, 5]
      dMap := #v[6, 7, 8, 9, 10, 11]
      mapGen := 1
      mapLock := false }
  meas := ⟨0, 1000, none, some 20000, false⟩
  port := ⟨[], [], none, false, some 200000, false, some 100000, none⟩
  receivers := ⟨.hunting, .hunting, Vector.replicate 12 .hunting⟩
  pending := []

end Sys2Proof.Machine
end

