-- ==== Sys2Proof/Machine/Operands.lean ====
section
/-! DEFINITION. The arithmetic of the manual (00_scope.md, Arithmetic), the ranges of the setup records (R140), the numbering of
valves, levels and sources, and the numeric codes that the spec fixes (R159, R165). -/

namespace Sys2Proof.Machine

/-! ## Arithmetic -/

/-- `trunc(a/b)`: the quotient rounded toward zero. -/
def truncDiv (a b : Int) : Int := Int.tdiv a b

/-- `clamp(x, lo, hi)` on naturals. -/
def clampNat (x lo hi : Nat) : Nat := if x < lo then lo else if hi < x then hi else x

/-- `clamp(x, lo, hi)` on integers. -/
def clampInt (x lo hi : Int) : Int := if x < lo then lo else if hi < x then hi else x

/-- The angle-to-time conversion A(x) at period `p` (00_scope.md, Arithmetic). -/
def angleTicks (p x : Nat) : Nat := (x * p + 18000) / 36000

/-- Milliseconds in ticks. -/
def msTicks (ms : Nat) : Nat := ms * Config.ticksPerMs

/-- A 16-bit count that saturates. -/
def satSucc (n : Nat) : Nat := min Config.maxWord (n + 1)

/-- Nominal period for f_nom (R1). -/
def pNom (fNom : Nat) : Nat := if fNom = 60 then 166667 else 200000

/-- Lower limit of the period (R1). -/
def pMin (fNom : Nat) : Nat := pNom fNom * 9 / 10

/-- Upper limit of the period (R1). -/
def pMax (fNom : Nat) : Nat := pNom fNom * 11 / 10

/-- A generation after one more accepted write: 65,535 wraps to 1 (R148). -/
def nextGeneration (g : Nat) : Nat := if g = Config.maxWord then 1 else g + 1

/-- A window number after one more firing: 65,535 wraps to 1, and 0 is never opened by a firing (R77). -/
def nextWindow (w : Nat) : Nat := if w = Config.maxWord then 1 else w + 1

/-! ## Valves -/

/-- The valve of a number 1 to 12. -/
def valveOfNumber (n : Nat) : Valve := Fin.ofNat 12 (n - 1)

/-- The valve with a given number, if the number is 1 to 12. -/
def valveOfNumber? (n : Nat) : Option Valve :=
  if 1 ≤ n ∧ n ≤ 12 then some (valveOfNumber n) else none

/-- The valve is in the Y bridge, 1 to 6. -/
def isY (v : Valve) : Bool := decide (v.val < 6)

/-- The lower and higher number, within a bridge, of the phase leg that holds the number `n` within the bridge: the
legs are {1,4}, {3,6} and {5,2} (00_scope.md, Valves; R126). -/
def legOfNumber (n : Nat) : Nat × Nat :=
  if n = 1 ∨ n = 4 then (1, 4) else if n = 3 ∨ n = 6 then (3, 6) else (2, 5)

/-- The pair of the Y bridge chosen from its mark; {1,4} when the mark is absent (R126). -/
def pairY : Option Valve → Valve × Valve
  | none => (valveOfNumber 1, valveOfNumber 4)
  | some v =>
    let leg := legOfNumber (valveNumber v)
    (valveOfNumber leg.1, valveOfNumber leg.2)

/-- The pair of the D bridge chosen from its mark; {7,10} when the mark is absent (R126). -/
def pairD : Option Valve → Valve × Valve
  | none => (valveOfNumber 7, valveOfNumber 10)
  | some v =>
    let leg := legOfNumber (valveNumber v - 6)
    (valveOfNumber (leg.1 + 6), valveOfNumber (leg.2 + 6))

/-- Y_k of the map in force. -/
def yValve (st : Store) (k : Nat) : Valve := (st.yMap[k]?).getD 0

/-- D_k of the map in force. -/
def dValve (st : Store) (k : Nat) : Valve := (st.dMap[k]?).getD 0

/-! ## Levels -/

/-- Level `l` is in the present set; level 1 is the most significant bit (R159). -/
def isPresent (present : BitVec 120) (l : Nat) : Bool := decide (1 ≤ l) && present.getMsbD (l - 1)

/-- A level that a record can classify (R75). -/
def isLive : LevelState → Bool
  | .unknown => true
  | .healthy => true
  | .suspect => true
  | .failedShort => false
  | .failedNofire => false
  | .excluded => false

/-- The number of levels that are out (R76). -/
def outCount (levels : List LevelEntry) : Nat := levels.countP fun e => !isLive e.state

/-! ## Sources -/

/-- The source of a number 0 to 7. -/
def sourceOfNumber? : Nat → Option Source
  | 0 => some .valveTrip
  | 1 => some .phaseLost
  | 2 => some .linkLost
  | 3 => some .commutationFail
  | 4 => some .refireLimit
  | 5 => some .measureStale
  | 6 => some .levelDegraded
  | 7 => some .orderStale
  | _ => none

/-- Membership of a source in a set. -/
def hasSource (x : SourceSet) : Source → Bool
  | .valveTrip => x.valveTrip
  | .phaseLost => x.phaseLost
  | .linkLost => x.linkLost
  | .commutationFail => x.commutationFail
  | .refireLimit => x.refireLimit
  | .measureStale => x.measureStale
  | .levelDegraded => x.levelDegraded
  | .orderStale => x.orderStale

/-- The set with one source put in (`b` true) or taken out. -/
def putSource (x : SourceSet) (src : Source) (b : Bool) : SourceSet :=
  match src with
  | .valveTrip => { x with valveTrip := b }
  | .phaseLost => { x with phaseLost := b }
  | .linkLost => { x with linkLost := b }
  | .commutationFail => { x with commutationFail := b }
  | .refireLimit => { x with refireLimit := b }
  | .measureStale => { x with measureStale := b }
  | .levelDegraded => { x with levelDegraded := b }
  | .orderStale => { x with orderStale := b }

/-- The set of the sources whose numbers a list names. -/
def sourcesOfNumbers (ns : List Nat) : SourceSet :=
  ⟨ns.contains 0, ns.contains 1, ns.contains 2, ns.contains 3, ns.contains 4, ns.contains 5, ns.contains 6, ns.contains 7⟩

/-- A source with an edge as its trigger (R98). -/
def isEdgeSource : Source → Bool
  | .valveTrip => true
  | .commutationFail => true
  | .refireLimit => true
  | _ => false

/-- A source of the CLEARED end mode (R98). -/
def isClearedSource : Source → Bool
  | .measureStale => true
  | .levelDegraded => true
  | .orderStale => true
  | _ => false

/-- The action of a source (R98). -/
def sourceAction : Source → Action
  | .valveTrip => .trip
  | .phaseLost => .stop
  | .linkLost => .stop
  | .commutationFail => .advance
  | _ => .alarm

/-! ## Ranges of the setup records (R140) -/

/-- `x` lies in `lo..hi`. -/
def inRange (x lo hi : Nat) : Bool := decide (lo ≤ x) && decide (x ≤ hi)

/-- SETUP_PHASE's range check (R140). -/
def phaseInRange (v : PhaseValues) : Bool :=
  (v.fNom == 50 || v.fNom == 60) && inRange v.w 200 2000 && inRange v.holdoverLimit 6 60

/-- SETUP_ANGLES' range and cross checks, without the role (R140). -/
def anglesInRange (v : AngleValues) : Bool :=
  inRange v.alphaMin 200 3000 && inRange v.alphaMax 12000 17000 &&
  inRange v.alphaStart v.alphaMin v.alphaMax && inRange v.alphaRetard v.alphaMin v.alphaMax &&
  inRange v.stepUp 50 3000 && inRange v.stepDown 50 6000 && inRange v.latency 0 3 &&
  (decide (-100 ≤ v.dtrim) && decide (v.dtrim ≤ 100)) && inRange v.gammaRef 1000 3000 &&
  inRange v.trainCdeg 6000 12000 && inRange v.repeatTicks 500 5000 && inRange v.refireLimit 1 8

/-- SETUP_GUARD's range check, without the nesting mode (R140). -/
def guardInRange (v : GuardValues) : Bool :=
  inRange v.cfpThreshold 500 1000 && inRange v.cfpBoost 0 2000 && inRange v.cfpHold 10 500 &&
  inRange v.cfpDecay 10 500 && inRange v.cfBoost 0 2000 && inRange v.cfHold 10 500 &&
  inRange v.cfLimit 2 10 && inRange v.cfWindow 50 2000 && inRange v.retardTime 0 500 &&
  inRange v.precheckTimeout 20 1000 && inRange v.staleTimeout 5 100 && inRange v.orderTimeout 2 100 &&
  inRange v.linkTimeout 5 200

/-- SETUP_LEVELS' range and cross checks (R140). -/
def levelsInRange (v : LevelValues) : Bool :=
  inRange v.nL 16 120 && inRange v.redundancy 0 16 && decide (v.redundancy < v.nL / 4) &&
  inRange v.warning 0 v.redundancy && inRange v.missLimit 1 15 && inRange v.pfLimit 1 15

/-- Every setup value in force lies in its range. -/
def setupInRange (v : Setup) : Bool :=
  phaseInRange v.phase && anglesInRange v.angles && guardInRange v.guard && levelsInRange v.levels

/-- A map write names each of the valves 1 to 6 once in `y` and 7 to 12 once in `d` (R145). -/
def mapInRange (y d : Vector Nat 6) : Bool :=
  [1, 2, 3, 4, 5, 6].all (fun n => y.toList.count n == 1) &&
  [7, 8, 9, 10, 11, 12].all (fun n => d.toList.count n == 1)

/-! ## Codes -/

/-- The kind code of a request (R159). -/
def requestCode : RequestKind → Nat
  | .setupBegin => 0x01
  | .setupPhase => 0x02
  | .setupAngles => 0x03
  | .setupGuard => 0x04
  | .setupLevels => 0x05
  | .setupEnd => 0x06
  | .tableWrite => 0x07
  | .tableRead => 0x08
  | .mapWrite => 0x09
  | .mapLock => 0x0A
  | .deblock => 0x0B
  | .block => 0x0C
  | .bypass => 0x0D
  | .testStart => 0x0E
  | .testSuspend => 0x0F
  | .testResume => 0x10
  | .angleOrder => 0x11
  | .phaseRestart => 0x12
  | .restart => 0x13
  | .protMask => 0x14
  | .protEnd => 0x15
  | .protEndTop => 0x16
  | .protStatus => 0x17
  | .levelLatch => 0x18
  | .levelRead => 0x19
  | .levelFind => 0x1A
  | .levelRelease => 0x1B
  | .levelClear => 0x1C
  | .levelExclude => 0x1D
  | .status => 0x1E
  | .historyRead => 0x1F

/-- The 31 request kinds in the order of their codes (R159). -/
def allKinds : List RequestKind :=
  [.setupBegin, .setupPhase, .setupAngles, .setupGuard, .setupLevels, .setupEnd, .tableWrite, .tableRead, .mapWrite,
    .mapLock, .deblock, .block, .bypass, .testStart, .testSuspend, .testResume, .angleOrder, .phaseRestart, .restart,
    .protMask, .protEnd, .protEndTop, .protStatus, .levelLatch, .levelRead, .levelFind, .levelRelease, .levelClear,
    .levelExclude, .status, .historyRead]

/-- The request kind of a kind code; none for a code outside 01 to 1F, which is an unknown kind (R159, R164). -/
def kindOfCode? (code : Nat) : Option RequestKind := allKinds.find? fun k => requestCode k == code

/-- The request of a kind that carries no value, whose body is empty (log 7); none for a kind that carries values. -/
def bareRequest? : RequestKind → Option Request
  | .setupBegin => some .setupBegin
  | .setupEnd => some .setupEnd
  | .mapLock => some .mapLock
  | .block => some .block
  | .bypass => some .bypass
  | .testSuspend => some .testSuspend
  | .testResume => some .testResume
  | .phaseRestart => some .phaseRestart
  | .restart => some .restart
  | .protEndTop => some .protEndTop
  | .protStatus => some .protStatus
  | .levelLatch => some .levelLatch
  | .levelRelease => some .levelRelease
  | .status => some .status
  | .setupPhase => none
  | .setupAngles => none
  | .setupGuard => none
  | .setupLevels => none
  | .tableWrite => none
  | .tableRead => none
  | .mapWrite => none
  | .deblock => none
  | .testStart => none
  | .angleOrder => none
  | .protMask => none
  | .protEnd => none
  | .levelRead => none
  | .levelFind => none
  | .levelClear => none
  | .levelExclude => none
  | .historyRead => none

/-- The kind code of an outgoing record: a reply carries its request's code plus 80 hex (R159, R165). -/
def outRecordCode : OutRecord → Nat
  | .reply kind _ _ _ => requestCode kind + 0x80
  | .unknownReply _ _ => 0xFF
  | .noticeState _ _ _ _ _ => 0xE0
  | .noticeGrant _ _ _ => 0xE1
  | .noticeEnd _ _ _ => 0xE1

/-- The tag of an outgoing record: its request's, or 0 for a notice (R165, R167). -/
def outRecordTag : OutRecord → Nat
  | .reply _ tag _ _ => tag
  | .unknownReply tag _ => tag
  | _ => 0

/-- The value of a completion code (R165). -/
def completionCode : Completion → Nat
  | .done => 0x00
  | .partialScan => 0x01
  | .found => 0x02
  | .exhausted => 0x03
  | .held => 0x04
  | .state => 0x10
  | .range => 0x11
  | .sequence => 0x12
  | .signature => 0x13
  | .incomplete => 0x14
  | .phase => 0x15
  | .protection => 0x16
  | .redundancy => 0x17
  | .locked => 0x18
  | .noSnapshot => 0x19
  | .unknown => 0x1A

end Sys2Proof.Machine
end

