-- ==== Sys2Proof/Machine/Flags.lean ====
section
/-! DEFINITION. What is true in a state: the converter groups, the conditions of the protection sources (R101), the checks that
requests make, and the light of the emitter lines (R61). -/

namespace Sys2Proof.Machine

/-! ## Converter states -/

/-- The guarded states (06, 6.2). -/
def isGuarded : ConvState → Bool
  | .unconfigured => false
  | .blocked => false
  | _ => true

/-- The firing states, in which firing orders are made (R26). -/
def isFiring : ConvState → Bool
  | .running => true
  | .retard => true
  | .testing => true
  | _ => false

/-- The states in which writing requests are taken (R137). -/
def isAtRest : ConvState → Bool
  | .unconfigured => true
  | .blocked => true
  | _ => false

/-! ## Level Monitor -/

/-- F_v (R76). -/
def failedCount (s : State) (v : Valve) : Nat := outCount s.monitors[v].levels

/-- Some valve's F_v exceeds R of the setup in force (R108, R119). -/
def redundancyLost (s : State) : Bool :=
  allValves.any fun v => decide (s.store.setup.levels.redundancy < failedCount s v)

/-- The LEVEL_DEGRADED condition (R87). -/
def levelDegraded (s : State) : Bool :=
  allValves.any fun v => decide (s.store.setup.levels.warning ≤ failedCount s v) || s.monitors[v].lost

/-! ## Protection Resolver -/

/-- The source is in action (R99). -/
def isInAction (s : State) (src : Source) : Bool := s.prot.inAction.any fun a => decide (a.source = src)

/-- The source is pending (R99). -/
def isPending (s : State) (src : Source) : Bool := hasSource s.prot.waiting src

/-- The three positions of a source (R99). -/
inductive Position where
  | idle
  | pending
  | inAction
  deriving DecidableEq, Repr

/-- The position of a source (R99). -/
def position (s : State) (src : Source) : Position :=
  if isInAction s src then .inAction else if isPending s src then .pending else .idle

/-- Any of sources 0, 1 and 2 is in action (R114). -/
def stopInAction (s : State) : Bool :=
  isInAction s .valveTrip || isInAction s .phaseLost || isInAction s .linkLost

/-- The condition of a condition source; an edge source has none (R101). -/
def conditionHolds (s : State) : Source → Bool
  | .phaseLost => decide (s.pru.lock = .unlocked) && isGuarded s.ctl.state
  | .linkLost => s.port.linkSilent && isGuarded s.ctl.state
  | .measureStale => s.meas.stale
  | .levelDegraded => levelDegraded s
  | .orderStale => s.port.orderTimer.isNone && decide (s.ctl.state = .running)
  | .valveTrip => false
  | .commutationFail => false
  | .refireLimit => false

/-! ## Table Store -/

/-- Rows written (R144). -/
def rowsWritten (st : Store) : Nat := st.table.toList.countP (·.written)

/-- The Commutation Table is complete (08, 8.1); the Valve Map always is (R147). -/
def tableComplete (st : Store) : Bool := st.table.toList.all (·.written)

/-- The two carried generations are those in force (R148). -/
def signatureMatches (st : Store) (tableGen mapGen : Nat) : Bool :=
  decide (tableGen = st.tableGen) && decide (mapGen = st.mapGen)

/-! ## Control Link Port -/

/-- The port takes a request now: a frame waits and the outgoing list holds 16 records or fewer (R164). -/
def requestReady (s : State) : Bool :=
  !s.port.requests.isEmpty && decide (s.port.outgoing.length ≤ Config.takeLimit)

/-! ## Emitter lines -/

/-- The emitter line of a valve is lit (R61). -/
def lineLit (s : State) (v : Valve) : Bool :=
  (decide (s.gens[v].mode ≠ .off) && s.gens[v].litUntil.any fun t => decide (s.now < t)) ||
    s.emitters[v].probeUntil.any fun t => decide (s.now < t)

end Sys2Proof.Machine
end

