-- ==== Sys2Proof/Machine/Layouts.lean ====
section
/-! DEFINITION. The free values of the part: the byte layouts that the spec leaves unstated (R159, R164, R165, R167, log 7) and
the tag of a partner record, which is sent and not used (R159). Nothing in Lean can evaluate one of them. -/

namespace Sys2Proof.Config

open Sys2Proof.Machine

/-- The bytes in which a reply lays out its contents after the completion code (R165). -/
opaque contentBytes : Content → List Byte

/-- The bytes of the body of a notice (R167). -/
opaque noticeBytes : OutRecord → List Byte

/-- The fixed body length of a request kind that carries values (R164). -/
opaque requestLength : RequestKind → Nat

/-- The request that a body of its kind's length carries (R164). -/
opaque requestOfBody : RequestKind → List Byte → Request

/-- The bytes of the body of a good frame of the control link. -/
opaque controlBytes : ControlFrame → List Byte

/-- The tag byte of a partner record that arrives on a line at a station time (R159). -/
opaque partnerTag : Line → Nat → Byte

end Sys2Proof.Config
end

