-- ==== Sys2Proof/Machine/Framing.lean ====
section
/-! DEFINITION. Frames at the byte level: the CRC (R161), the frame and the bodies of the partner records and of the outgoing
records (R159, R165), the reading of a control frame (R164), and each line's receiver (R160, R151, R162). -/

namespace Sys2Proof.Machine

/-! ## CRC (R161) -/

/-- The start delimiter (R159). -/
def delimiter : Byte := 0x7E

/-- One bit into the CRC register, generator 1021 hex. -/
def crcBit (reg : BitVec 16) (bit : Bool) : BitVec 16 :=
  if reg.msb != bit then (reg <<< 1) ^^^ 0x1021#16 else reg <<< 1

/-- One byte into the CRC register, most significant bit first. -/
def crcByte (reg : BitVec 16) (b : Byte) : BitVec 16 :=
  [0, 1, 2, 3, 4, 5, 6, 7].foldl (fun r i => crcBit r (b.getMsbD i)) reg

/-- The CRC of a run of bytes; the register starts at FFFF hex. -/
def crc16 (bytes : List Byte) : BitVec 16 := bytes.foldl crcByte 0xFFFF#16

/-- A 16-bit value as two bytes, most significant first (R159). -/
def twoBytes (x : BitVec 16) : List Byte := [x.extractLsb' 8 8, x.extractLsb' 0 8]

/-- Two bytes as a 16-bit value, most significant first. -/
def ofTwoBytes (hi lo : Byte) : BitVec 16 := hi ++ lo

/-! ## Frames (R159) -/

/-- A frame as sent: delimiter, length, kind, tag, body, CRC over bytes 1 to n + 1. -/
def frameBytes (kind tag : Byte) (body : List Byte) : List Byte :=
  let covered := BitVec.ofNat 8 (body.length + 2) :: kind :: tag :: body
  delimiter :: covered ++ twoBytes (crc16 covered)

/-- The bytes of the present set, level 1 the most significant bit of the first (R159). -/
def presentBytes (p : BitVec 120) : List Byte :=
  [14, 13, 12, 11, 10, 9, 8, 7, 6, 5, 4, 3, 2, 1, 0].map fun i => p.extractLsb' (8 * i) 8

/-- The present set of 15 bytes. -/
def presentOfBytes (bytes : List Byte) : BitVec 120 :=
  BitVec.ofNat 120 (bytes.foldl (fun acc b => acc * 256 + b.toNat) 0)

/-- The body of a SAMPLE record (R159). -/
def sampleBody (seq : Nat) (id : Int) (uac : Nat) : List Byte :=
  BitVec.ofNat 8 seq :: twoBytes (BitVec.ofInt 16 id) ++ twoBytes (BitVec.ofNat 16 uac)

/-- The body of a CROSSING record (R159). -/
def crossingBody (kind lag : Nat) : List Byte := [BitVec.ofNat 8 kind, BitVec.ofNat 8 lag]

/-- The body of a RETURN record (R159). -/
def returnBody (r : ReturnRecord) : List Byte :=
  BitVec.ofNat 8 r.valve :: twoBytes (BitVec.ofNat 16 r.window) ++ presentBytes r.present ++
    BitVec.ofNat 8 r.protective.length :: r.protective.map (BitVec.ofNat 8)

/-- The body of a REAPPEAR record (R159). -/
def reappearBody (valve : Nat) : List Byte := [BitVec.ofNat 8 valve]

/-- The bytes of a partner record's frame with a given tag, which is sent and not used (R159); `none` for a command that
is no partner record. -/
def partnerFrame (tag : Byte) : Instr → Option (List Byte)
  | .sample seq id uac => some (frameBytes 0x40 tag (sampleBody seq id uac))
  | .crossing kind lag => some (frameBytes 0x41 tag (crossingBody kind lag))
  | .returnRecord _ r => some (frameBytes 0x50 tag (returnBody r))
  | .reappear _ valve => some (frameBytes 0x51 tag (reappearBody valve))
  | _ => none

/-! ## Outgoing frames (R159, R165, R167) -/

/-- The body of an outgoing record. A refusal or a bare acceptance carries its code alone, and the reply to an unknown kind
the code received (R165); other contents and the notices lie as the free layouts say, within the longest body (log 7). -/
def outRecordBody : OutRecord → List Byte
  | .reply _ _ code content =>
    BitVec.ofNat 8 (completionCode code) ::
      if content = .empty then [] else (Config.contentBytes content).take (Config.bodyLimit - 1)
  | .unknownReply _ kindCode => [BitVec.ofNat 8 (completionCode .unknown), BitVec.ofNat 8 kindCode]
  | .noticeState old new cause valve time =>
    (Config.noticeBytes (.noticeState old new cause valve time)).take Config.bodyLimit
  | .noticeGrant src action time => (Config.noticeBytes (.noticeGrant src action time)).take Config.bodyLimit
  | .noticeEnd src cause time => (Config.noticeBytes (.noticeEnd src cause time)).take Config.bodyLimit

/-- The frame in which an outgoing record is sent, with its CRC (R159, R161). -/
def outFrame (r : OutRecord) : List Byte :=
  frameBytes (BitVec.ofNat 8 (outRecordCode r)) (BitVec.ofNat 8 (outRecordTag r)) (outRecordBody r)

/-- The length byte of an outgoing record's frame: kind, tag and body together (R159). -/
def recordLength (r : OutRecord) : Nat := (outRecordBody r).length + 2

/-! ## Control frames (R159, R164) -/

/-- A good frame of the control link as the port takes it in: its kind byte read as a request kind or an unknown kind, and its
body judged by the kind's fixed length (R164). A kind that carries no value has an empty body; the layout of the others is
free (log 7). -/
def controlFrameOf (kind tag : Byte) (body : List Byte) : ControlFrame :=
  ⟨tag.toNat,
    match kindOfCode? kind.toNat with
    | none => .unknownKind kind.toNat
    | some k =>
      match bareRequest? k with
      | some r => if body = [] then .request r else .badLength k
      | none =>
        let r := Config.requestOfBody k body
        if body.length = Config.requestLength k ∧ requestKind r = k then .request r else .badLength k⟩

/-- The kind code of a good frame of the control link. -/
def controlFrameCode (f : ControlFrame) : Nat :=
  match f.body with
  | .request r => requestCode (requestKind r)
  | .badLength k => requestCode k
  | .unknownKind code => code

/-- The frame in which a good frame of the control link arrives; its body is empty when its request carries no value, and
otherwise lies as the free layout says (log 7). -/
def controlFrameBytes (f : ControlFrame) : List Byte :=
  let body :=
    match f.body with
    | .request r => if bareRequest? (requestKind r) = some r then [] else (Config.controlBytes f).take Config.bodyLimit
    | .badLength _ => (Config.controlBytes f).take Config.bodyLimit
    | .unknownKind _ => (Config.controlBytes f).take Config.bodyLimit
  frameBytes (BitVec.ofNat 8 (controlFrameCode f)) (BitVec.ofNat 8 f.tag) body

/-! ## Reading a frame (R160) -/

/-- What a frame turns out to be at its last byte. -/
inductive FrameOutcome where
  | discarded
  | control (f : ControlFrame)
  | record (c : Instr)
  deriving DecidableEq, Repr

/-- The record of a good frame of the measurement line; any other kind or body length is discarded (R160, R151). -/
def measurementRecord (kind : Byte) (body : List Byte) : FrameOutcome :=
  if kind = 0x40 then
    match body with
    | [seq, i1, i0, u1, u0] =>
      .record (.sample seq.toNat (ofTwoBytes i1 i0).toInt (ofTwoBytes u1 u0).toNat)
    | _ => .discarded
  else if kind = 0x41 then
    match body with
    | [k, lag] => .record (.crossing k.toNat lag.toNat)
    | _ => .discarded
  else .discarded

/-- The RETURN record of a body, when its length is 19 plus its protective count and that count is at most 8 (R159). -/
def returnOfBody (body : List Byte) : Option ReturnRecord :=
  match body with
  | valve :: w1 :: w0 :: rest =>
    let present := rest.take 15
    match rest.drop 15 with
    | count :: list =>
      if count.toNat ≤ 8 ∧ list.length = count.toNat then
        some ⟨valve.toNat, (ofTwoBytes w1 w0).toNat, presentOfBytes present, list.map BitVec.toNat⟩
      else none
    | [] => none
  | _ => none

/-- The record of a good frame of a return line (R160, R162). -/
def returnLineRecord (line : Valve) (kind : Byte) (body : List Byte) : FrameOutcome :=
  if kind = 0x50 then
    match returnOfBody body with
    | some r => .record (.returnRecord line r)
    | none => .discarded
  else if kind = 0x51 then
    match body with
    | [valve] => .record (.reappear line valve.toNat)
    | _ => .discarded
  else .discarded

/-- What the bytes after the length byte `n` make of the frame: the CRC first, then the line's own check (R160). A frame
of the control link is good whatever its kind. -/
def judgeFrame (line : Line) (n : Nat) (got : List Byte) : FrameOutcome :=
  let covered := BitVec.ofNat 8 n :: got.take n
  if got.drop n = twoBytes (crc16 covered) then
    match got.take n with
    | kind :: tag :: body =>
      match line with
      | .control => .control (controlFrameOf kind tag body)
      | .measurement => measurementRecord kind body
      | .ret v => returnLineRecord v kind body
    | _ => .discarded
  else .discarded

/-- The receiver after a byte that it hunts through at `t` (R160). -/
def huntByte (t : Nat) (b : Byte) : Receiver := if b = delimiter then .awaitLength t else .hunting

/-- The receiver stands inside a frame whose last byte is more than 40 ticks old at `t`: the gap has ended that frame (R160). -/
def gapPassed (t : Nat) : Receiver → Bool
  | .hunting => false
  | .awaitLength last => decide (last + Config.byteGap < t)
  | .reading _ _ last => decide (last + Config.byteGap < t)

/-- One byte into a receiver at station time `t`: its next state, and the outcome of a frame that the byte ends. A byte after a
gap is hunted through, a bad length ends the frame at its length byte, and any frame whose length was read ends at its second
CRC byte (R160). -/
def receiveByte (line : Line) (t : Nat) (r : Receiver) (b : Byte) : Receiver × Option FrameOutcome :=
  if gapPassed t r then (huntByte t b, some .discarded)
  else
    match r with
    | .hunting => (huntByte t b, none)
    | .awaitLength _ =>
      if b.toNat < 2 ∨ 250 < b.toNat then (.hunting, some .discarded) else (.reading b.toNat [] t, none)
    | .reading n got _ =>
      if got.length + 1 < n + 2 then (.reading n (got ++ [b]) t, none)
      else (.hunting, some (judgeFrame line n (got ++ [b])))

/-- A run of bytes into a receiver: its state after them and the outcomes of the frames they end, in order. -/
def receiveBytes (line : Line) (t : Nat) : Receiver → List Byte → Receiver × List FrameOutcome
  | r, [] => (r, [])
  | r, b :: bs =>
    let first := receiveByte line t r b
    let rest := receiveBytes line t first.1 bs
    (rest.1, first.2.toList ++ rest.2)

/-! ## The fourteen receivers -/

/-- The receiver of a line. -/
def lineReceiver (rs : Receivers) : Line → Receiver
  | .control => rs.control
  | .measurement => rs.measurement
  | .ret v => rs.returns[v]

/-- The receivers with one line's replaced. -/
def setLineReceiver (rs : Receivers) (line : Line) (r : Receiver) : Receivers :=
  match line with
  | .control => { rs with control := r }
  | .measurement => { rs with measurement := r }
  | .ret v => { rs with returns := rs.returns.set v r }

/-- When a receiver inside a frame times out: the first tick at which the gap is more than 40 ticks (R160). -/
def gapExpiry : Receiver → Option Nat
  | .hunting => none
  | .awaitLength t => some (t + Config.byteGap + 1)
  | .reading _ _ t => some (t + Config.byteGap + 1)

/-- The line's receiver is between frames: it hunts, or a gap has ended the frame that it was in (R160). -/
def betweenFrames (line : Line) (s : State) : Bool :=
  match lineReceiver s.receivers line with
  | .hunting => true
  | .awaitLength last => gapPassed s.now (.awaitLength last)
  | .reading n got last => gapPassed s.now (.reading n got last)

/-- The line's receiver is between frames again, as after every frame's second CRC byte (R160). -/
def frameEnded (line : Line) (s : State) : State :=
  { s with receivers := setLineReceiver s.receivers line .hunting }

end Sys2Proof.Machine
end

