-- ==== Sys2Proof/Machine/Ops.lean ====
section
/-! DEFINITION. The operations that every block shares: station time and the expiries that bound it, and the outgoing list. -/

namespace Sys2Proof.Machine

/-! ## Station time -/

/-- The armed expiry of the PRU: T_pred + W_eff of the prediction in force (R4). -/
def armedExpiry (u : Pru) : Option Nat := u.pred.map fun q => q.tPred + q.wEff

/-- The due time of the first calendar entry (R49). -/
def nextDue (c : Calendar) : Option Nat := c.orders.head?.map (·.due)

/-- When a record of length byte `n` that began at `t` has been sent: 4 + n bytes at 8 ticks (R159, R166). -/
def sentAt (t n : Nat) : Nat := t + Config.ticksPerByte * (4 + n)

/-- The length byte of the record that the line sends. -/
def sendingLength (p : Port) : Option Nat := p.outgoing.head?.map recordLength

/-- When the record that the line sends has been sent (R166). -/
def sendEnd (p : Port) : Option Nat :=
  match p.sendStart, sendingLength p with
  | some t, some n => some (sentAt t n)
  | _, _ => none

/-- Every time at which the part has an event of its own to take. -/
def armedTimes (s : State) : List Nat :=
  ([armedExpiry s.pru, nextDue s.cal, s.acu.cfpHold, s.prot.cfTimer, s.prot.refireTimer, s.prot.runWindow,
    s.ctl.precheckTimer, s.ctl.retardTimer, s.meas.staleTimer, s.port.linkTimer, s.port.orderTimer,
    sendEnd s.port, gapExpiry s.receivers.control, gapExpiry s.receivers.measurement] ++
    s.gens.toList.map (·.repeatAt) ++ s.gens.toList.map (·.trainEnd) ++
    s.receivers.returns.toList.map gapExpiry).filterMap id

/-- Station time can be (or come to be) `t` without passing an event that the part has to take first: the request at the
head of the queue when the port can take it, or an earlier expiry (log 2). -/
def canReach (t : Nat) (s : State) : Bool :=
  decide (t ≤ s.now) || (!requestReady s && (armedTimes s).all fun a => decide (t ≤ a))

/-- The state at station time `t`, which is never earlier than the present. -/
def atTime (t : Nat) (s : State) : State := { s with now := max s.now t }

/-- An event of the part at its own instant `t`: taken when it is armed and station time can come to `t`, and otherwise no
event at all (log 2, log 4). -/
def onExpiry (t : Option Nat) (f : State → State) (s : State) : State :=
  match t with
  | some t => if canReach t s then f (atTime t s) else s
  | none => s

/-! ## Outgoing list (R166) -/

/-- Append a record; the line begins to send it at once when it was idle. -/
def appendRecord (r : OutRecord) (s : State) : State :=
  { s with port := { s.port with
      outgoing := s.port.outgoing ++ [r]
      sendStart := if s.port.outgoing.isEmpty then some s.now else s.port.sendStart } }

/-- A reply, which always finds room (R164, R166). -/
def reply (k : RequestKind) (tag : Nat) (code : Completion) (content : Content) (s : State) : State :=
  appendRecord (.reply k tag code content) s

/-- A notice: lost, with the flag set, when the list holds 32 records (R166). -/
def notify (r : OutRecord) (s : State) : State :=
  if s.port.outgoing.length < Config.outgoingCapacity then appendRecord r s
  else { s with port := { s.port with noticeLost := true } }

/-- NOTICE_STATE (R117). -/
def notifyState (old new : ConvState) (cause : StateCause) (valve : Option Valve) (s : State) : State :=
  notify (.noticeState old new cause valve s.now) s

/-- The oldest record leaves the list, its frame has gone out on the line, and the line begins the next (R166). -/
def dropSent (s : State) : State :=
  { s with port := { s.port with
      outgoing := s.port.outgoing.tail
      sendStart := if s.port.outgoing.tail.isEmpty then none else some s.now
      lastSent := s.port.outgoing.head?.map outFrame } }

end Sys2Proof.Machine
end

