-- ==== Sys2Proof/Machine/Levels.lean ====
section
/-! DEFINITION. The Level Monitor (05): windows, the classification of levels, clears and exclusions, the snapshot and its scan.
What a record does to the rest of the part is in Machine/Returns.lean. -/

namespace Sys2Proof.Machine

/-! ## Windows (R77, R78) -/

/-- The close of a window other than 0: a missing record raises the missing run, and at 3 the monitor is lost (R78). -/
def closeWindow (m : ValveMonitor) : ValveMonitor :=
  if m.window = 0 ∨ m.accepted then m
  else
    let run := min 3 (m.missingRun + 1)
    { m with missingRun := run, lost := m.lost || decide (run = 3) }

/-- A firing of the valve: the window is closed and the next one opened (R77). -/
def advanceWindow (m : ValveMonitor) : ValveMonitor :=
  { closeWindow m with window := nextWindow m.window, accepted := false }

/-- Replace what is kept of a valve. -/
def setMonitor (v : Valve) (m : ValveMonitor) (s : State) : State := { s with monitors := s.monitors.set v m }

/-- The window advance of a fired valve (R77). -/
def windowFiring (v : Valve) (s : State) : State := setMonitor v (advanceWindow s.monitors[v]) s

/-- The window reset of entry to PRECHECK and to TESTING (R96). -/
def resetWindows (s : State) : State :=
  { s with monitors := s.monitors.map fun m => { m with window := 0, accepted := false, armed := false } }

/-- The armed flags cleared at entry to RUNNING (R82, R96). -/
def clearArmed (s : State) : State :=
  { s with monitors := s.monitors.map fun m => { m with armed := false } }

/-! ## Classification (R83) -/

/-- A level entry in a new state, with the time of a change (R75). -/
def changeLevel (now : Nat) (state : LevelState) (e : LevelEntry) : LevelEntry :=
  { e with state := state, lastChange := if e.state = state then e.lastChange else some now }

/-- One live level classified by the first row that fits it (R83). -/
def classifyLive (lv : LevelValues) (now : Nat) (isProtective present : Bool) (e : LevelEntry) : LevelEntry :=
  if isProtective then
    let pf := e.pfRun + 1
    changeLevel now (if lv.pfLimit ≤ pf then .failedNofire else .suspect)
      { e with missRun := 0, pfRun := pf, pfTotal := satSucc e.pfTotal }
  else if present then changeLevel now .healthy { e with missRun := 0, pfRun := 0 }
  else
    let miss := e.missRun + 1
    changeLevel now (if lv.missLimit ≤ miss then .failedShort else .suspect) { e with missRun := miss }

/-- Level `l` after a record; levels that are out are skipped (R83). -/
def classifyLevel (lv : LevelValues) (now : Nat) (r : ReturnRecord) (l : Nat) (e : LevelEntry) : LevelEntry :=
  if isLive e.state then classifyLive lv now (r.protective.contains l) (isPresent r.present l) e else e

/-- Every level of a valve after a record; the list holds level 1 first. -/
def classifyLevels (lv : LevelValues) (now : Nat) (r : ReturnRecord) (levels : List LevelEntry) : List LevelEntry :=
  levels.mapIdx fun i e => classifyLevel lv now r (i + 1) e

/-- The live levels of the valve that the record names present (R81). -/
def presentCount (r : ReturnRecord) (levels : List LevelEntry) : Nat :=
  (levels.mapIdx fun i e => isLive e.state && isPresent r.present (i + 1)).countP id

/-- The no-voltage test, with F_v as it stands before the record (R81). -/
def isNoVoltage (nL : Nat) (r : ReturnRecord) (levels : List LevelEntry) : Bool :=
  decide (presentCount r levels < (nL - outCount levels) / 2)

/-! ## Clears and exclusions (R89, R90, R91) -/

/-- The entries after a clear of one level or of all of them (R89). -/
def clearLevels (level : Option Nat) (levels : List LevelEntry) : List LevelEntry :=
  match level with
  | none => levels.map fun _ => levelCleared
  | some l => levels.set (l - 1) levelCleared

/-- One entry excluded at `now`; an entry already excluded is left as it stands (R90). -/
def excludeLevel (now : Nat) (e : LevelEntry) : LevelEntry :=
  if e.state = .excluded then e
  else { e with state := .excluded, missRun := 0, pfRun := 0, lastChange := some now }

/-- The table formed anew at a new size, every entry cleared (R91). -/
def formTable (nL : Nat) (s : State) : State :=
  { s with monitors := s.monitors.map fun m => { m with levels := List.replicate nL levelCleared } }

/-! ## Snapshot (R92 to R95) -/

/-- A copy of the table at this instant (R92). -/
def takeSnapshot (s : State) : Snapshot where
  levels := s.monitors.map (·.levels)
  failed := s.monitors.map fun m => outCount m.levels
  nL := s.store.setup.levels.nL
  latchTime := s.now

/-- The entries that one LEVEL_READ returns (R94). -/
def readEntries (c : Snapshot) (v : Valve) (first : Nat) : List LevelEntry :=
  (c.levels[v].drop (first - 1)).take Config.levelReadLimit

/-- The snapshot's entries in order: valve 1 to 12, and within each valve level 1 to N_L (00_scope.md, Levels). -/
def snapshotEntries (c : Snapshot) : List LevelEntry := c.levels.toList.flatten

/-- The place of a position in that order. -/
def entryIndex (nL valve level : Nat) : Nat := (valve - 1) * nL + (level - 1)

/-- The position at a place of that order. -/
def entryPosition (nL i : Nat) : Nat × Nat := (i / nL + 1, i % nL + 1)

/-- The scan of LEVEL_FIND from an accepted start position: at most 128 entries, the first match wins (R95). -/
def scanSnapshot (c : Snapshot) (valve level : Nat) (states : List LevelState) : Completion × Content :=
  let start := entryIndex c.nL valve level
  let examined := ((snapshotEntries c).drop start).take Config.levelFindLimit
  let i := examined.findIdx fun e => states.contains e.state
  match examined[i]? with
  | some e =>
    let at_ := entryPosition c.nL (start + i)
    (.found, .levelFound at_.1 at_.2 e)
  | none =>
    if (snapshotEntries c).length ≤ start + Config.levelFindLimit then (.exhausted, .empty)
    else
      let next := entryPosition c.nL (start + Config.levelFindLimit)
      (.partialScan, .levelNext next.1 next.2)

end Sys2Proof.Machine
end

