-- ==== Sys2Proof/Machine/Pulses.lean ====
section
/-! DEFINITION. The pulse generators and the light of the emitter lines (04): pulses, trains, refires, holds and probes. -/

namespace Sys2Proof.Machine

/-! ## One generator -/

/-- The light of a pulse of length `d` started at `start`: it extends the light that stands and never shortens it (R61). -/
def extendLight (g : Generator) (start d : Nat) : Option Nat :=
  some (max (g.litUntil.getD 0) (start + d))

/-- A repeat expiry at `t` when it is earlier than the train end, and otherwise absent (R63, R64, R66). -/
def repeatBefore (t trainEnd : Nat) : Option Nat := if t < trainEnd then some t else none

/-- A NORMAL or TEST firing at `tf`: a new train whatever stood before (R63). -/
def startTrain (v : AngleValues) (p tf : Nat) (g : Generator) : Generator where
  mode := .train
  trainEnd := some (tf + angleTicks p v.trainCdeg)
  repeatAt := repeatBefore (tf + v.repeatTicks) (tf + angleTicks p v.trainCdeg)
  refires := 0
  litUntil := extendLight g tf Config.mainPulse

/-- A BYPASS firing at `tf`: a hold from any state (R68). -/
def startHold (v : AngleValues) (tf : Nat) (g : Generator) : Generator where
  mode := .hold
  trainEnd := none
  repeatAt := some (tf + v.repeatTicks)
  refires := 0
  litUntil := extendLight g tf Config.mainPulse

/-- The repeat expiry after one armed for `t`, or after a main pulse at `t`: bounded by the train end in TRAIN, unbounded
in HOLD (R64, R66, R67). -/
def rearmRepeat (v : AngleValues) (t : Nat) (g : Generator) : Option Nat :=
  match g.mode, g.trainEnd with
  | .train, some e => repeatBefore (t + v.repeatTicks) e
  | .train, none => none
  | _, _ => some (t + v.repeatTicks)

/-- A repeat expiry taken at `t` in TRAIN or HOLD (R64). -/
def repeatPulseAt (v : AngleValues) (t : Nat) (g : Generator) : Generator :=
  { g with repeatAt := rearmRepeat v t g, litUntil := extendLight g t Config.repeatPulse }

/-- A REAPPEAR taken at `t` in TRAIN or HOLD: a main pulse and a rearmed repeat; the count only in TRAIN (R66, R67). -/
def refireAt (v : AngleValues) (t : Nat) (g : Generator) : Generator :=
  { g with
    repeatAt := rearmRepeat v t g
    litUntil := extendLight g t Config.mainPulse
    refires := if g.mode = .train ∧ g.refires < v.refireLimit then g.refires + 1 else g.refires }

/-- A refire of the generator brings its count to refire_limit (R66). -/
def refireReachesLimit (v : AngleValues) (g : Generator) : Bool :=
  decide (g.mode = .train) && decide (g.refires < v.refireLimit) && decide (g.refires + 1 = v.refireLimit)

/-- A hold turned into a train at `td`, without a pulse (R70). -/
def holdToTrain (v : AngleValues) (p td : Nat) (g : Generator) : Generator :=
  if g.mode = .hold then
    { g with
      mode := .train
      trainEnd := some (td + angleTicks p v.trainCdeg)
      repeatAt := g.repeatAt.bind fun t => repeatBefore t (td + angleTicks p v.trainCdeg)
      refires := 0 }
  else g

/-! ## The twelve generators and lines -/

/-- Replace the generator of a valve. -/
def setGenerator (v : Valve) (g : Generator) (s : State) : State := { s with gens := s.gens.set v g }

/-- Record the pulse started on a valve's emitter line (R62, log 10). -/
def emitPulse (v : Valve) (pulse : Pulse) (s : State) : State :=
  { s with emitters := s.emitters.set v { s.emitters[v] with lastPulse := some pulse } }

/-- Every generator enters OFF (R71). -/
def generatorsOff (s : State) : State := { s with gens := Vector.replicate 12 generatorOff }

/-- Every generator but those of the listed valves enters OFF (R69). -/
def generatorsOffExcept (keep : List Valve) (s : State) : State :=
  { s with gens := Vector.ofFn fun v => if keep.contains v then s.gens[v] else generatorOff }

/-- Every hold becomes a train (R70). -/
def holdsToTrains (s : State) : State :=
  { s with gens := s.gens.map (holdToTrain s.store.setup.angles s.pru.p s.now) }

/-- The probe pulse on every emitter line, window code 0, 100 ticks (R72). -/
def probeAll (s : State) : State :=
  { s with emitters := Vector.replicate 12 ⟨some (s.now + Config.probePulse), some ⟨.probe, s.now, some 0⟩⟩ }

/-- The generator's part of a firing of a valve, with the window code its main pulse carries (R62, R63, R68). -/
def pulseFiring (v : Valve) (kind : OrderKind) (code : Nat) (s : State) : State :=
  let g := if kind = .bypass then startHold s.store.setup.angles s.now s.gens[v]
    else startTrain s.store.setup.angles s.pru.p s.now s.gens[v]
  emitPulse v ⟨.main, s.now, some code⟩ (setGenerator v g s)

end Sys2Proof.Machine
end

