-- ==== Sys2Proof/Machine/Calendar.lean ====
section
/-! DEFINITION. The Firing Calendar (03): its order, taking an order, the firing event with all it hands on, and discards. -/

namespace Sys2Proof.Machine

/-! ## Order of the list (R43) -/

/-- Sequence position of a valve for NORMAL and TEST orders: Y_k at 2k + 1, D_k at 2k + 2 (R43). -/
def sequencePosition (st : Store) (v : Valve) : Nat :=
  if isY v then 2 * st.yMap.toList.findIdx (· = v) + 1 else 2 * st.dMap.toList.findIdx (· = v) + 2

/-- The tie position of an order; BYPASS orders go Y bridge first and by rising number (R43). -/
def tiePosition (st : Store) (o : Order) : Nat :=
  if o.kind = .bypass then valveNumber o.valve else sequencePosition st o.valve

/-- `a` comes before `b` in the list (R43). -/
def comesBefore (st : Store) (a b : Order) : Bool :=
  decide (a.due < b.due) || (decide (a.due = b.due) && decide (tiePosition st a < tiePosition st b))

/-- The list with a new order at its place (R43). -/
def insertOrder (st : Store) (o : Order) : List Order → List Order
  | [] => [o]
  | x :: xs => if comesBefore st o x then o :: x :: xs else x :: insertOrder st o xs

/-! ## Firing (R49, R50) -/

/-- The order with LATE added (R46, R47). -/
def markLate (o : Order) : Order := { o with flags := { o.flags with late := true } }

/-- The record of a firing (R55). -/
def firingRecord (number firedAt : Nat) (o : Order) : FiringRecord :=
  ⟨number, o.valve, o.kind, o.rn, o.due, firedAt, o.angle, o.mu, o.flags⟩

/-- The ring with one more record, newest first, at most 64 (R56). -/
def pushRing (r : FiringRecord) (ring : List FiringRecord) : List FiringRecord :=
  (r :: ring).take Config.ringCapacity

/-- The calendar's own part of a firing of an order that has left the list: the count and the record (R49). -/
def countFiring (o : Order) (s : State) : State :=
  { s with cal := { s.cal with
      fired := s.cal.fired + 1
      ring := pushRing (firingRecord (s.cal.fired + 1) s.now o) s.cal.ring } }

/-- The last-fired mark of the fired valve's bridge (R126). -/
def markFired (v : Valve) (s : State) : State :=
  if isY v then { s with ctl := { s.ctl with lastY := some v } }
  else { s with ctl := { s.ctl with lastD := some v } }

/-- A TEST firing of Y_0 lowers the remaining count; at 0 a CONTINUOUS run reloads it and counts a wrap. The end of a
FIXED run is `endTestRun`, after the firing (R130, R50). -/
def countTest (o : Order) (s : State) : State :=
  if o.kind = .test ∧ o.valve = yValve s.store 0 then
    let left := s.ctl.remaining - 1
    if left = 0 ∧ s.ctl.testMode = .continuous then
      { s with ctl := { s.ctl with remaining := s.ctl.programmed, wraps := satSucc s.ctl.wraps } }
    else { s with ctl := { s.ctl with remaining := left } }
  else s

/-- The firing, at the present station time, of an order that has left the list: the record and the count, then the Level
Monitor's window, the generator's pulse with that window's number as its code, and the controller's marks (R49, R50). -/
def fireOrder (o : Order) (s : State) : State :=
  let s := countFiring o s
  let s := windowFiring o.valve s
  let s := pulseFiring o.valve o.kind s.monitors[o.valve].window s
  countTest o (markFired o.valve s)

/-- The firing of the first entry of the list (R49). -/
def fireFirst (s : State) : State :=
  match s.cal.orders with
  | o :: rest => fireOrder o { s with cal := { s.cal with orders := rest } }
  | [] => s

/-! ## Taking an order (R45 to R48) -/

/-- The order in the list that a new NORMAL or TEST order for a valve displaces (R46). -/
def isStandingFor (v : Valve) (o : Order) : Bool := decide (o.valve = v) && decide (o.kind ≠ .bypass)

/-- Fire at once, as LATE, the order standing for the valve, if there is one (R46). -/
def fireStanding (v : Valve) (s : State) : State :=
  match s.cal.orders.find? (isStandingFor v) with
  | some o =>
    fireOrder (markLate o) { s with cal := { s.cal with orders := s.cal.orders.eraseP (isStandingFor v) } }
  | none => s

/-- Enter an order in the list (R45). -/
def enterOrder (o : Order) (s : State) : State :=
  { s with cal := { s.cal with orders := insertOrder s.store o s.cal.orders } }

/-- Take a NORMAL or TEST order (R45, R46, R47). -/
def takeOrder (o : Order) (s : State) : State :=
  let s := { s with cal := { s.cal with created := s.cal.created + 1 } }
  let s := fireStanding o.valve s
  if o.due ≤ s.now then fireOrder (markLate o) s else enterOrder o s

/-- A BYPASS order due now (R42, R48). -/
def bypassOrder (now : Nat) (v : Valve) : Order :=
  ⟨v, .bypass, now, none, none, none, ⟨false, false, false, false⟩⟩

/-! ## Discards (R52) -/

/-- Discard every entry. -/
def discardAll (s : State) : State :=
  { s with cal := { s.cal with orders := [], discarded := s.cal.discarded + s.cal.orders.length } }

/-- Discard every NORMAL entry. -/
def discardNormal (s : State) : State :=
  { s with cal := { s.cal with
      orders := s.cal.orders.filter fun o => decide (o.kind ≠ .normal)
      discarded := s.cal.discarded + s.cal.orders.countP fun o => decide (o.kind = .normal) } }

/-- The calendar's part of the entry to BYPASS: the NORMAL orders are discarded, and the four BYPASS orders, lower then
higher valve of the Y pair and of the D pair, are taken and then fired in that order (R48). -/
def bypassFirings (y d : Valve × Valve) (s : State) : State :=
  let s := discardNormal s
  let s := { s with cal := { s.cal with created := s.cal.created + 4 } }
  [y.1, y.2, d.1, d.2].foldl (fun s v => fireOrder (bypassOrder s.now v) s) s

end Sys2Proof.Machine
end

