-- ==== Sys2Proof/Machine/Angles.lean ====
section
/-! DEFINITION. The Angle Computation Unit (02): pending orders, the CFP margin, the seven steps of the applied angle, and the
two firing orders of a usable reference point. -/

namespace Sys2Proof.Machine

/-- A reference point as the PRU hands it on (R9). -/
structure RefPoint where
  kind : Nat
  rn : Nat
  time : Nat
  period : Nat
  madeIn : LockState
  deriving DecidableEq, Repr

/-- A reference point made in LOCKED or HOLDOVER is usable (R9). -/
def isUsable (r : RefPoint) : Bool := decide (r.madeIn = .locked) || decide (r.madeIn = .holdover)

/-! ## Orders (R22 to R25) -/

/-- The active alpha: alpha_start in force while no order has been applied (R24). -/
def activeAlpha (s : State) : Nat := s.acu.active.getD s.store.setup.angles.alphaStart

/-- An angle order within range becomes pending, or replaces the pending angle and keeps its apply point (R22, R23). -/
def takeAngle (alpha : Nat) (s : State) : State :=
  let point := match s.acu.waiting with
    | some w => w.applyPoint
    | none => s.pru.rn + 1 + s.store.setup.angles.latency
  { s with acu := { s.acu with waiting := some ⟨alpha, point⟩ } }

/-- The pending order becomes active at a usable point at or past its apply point (R24). -/
def applyPending (rn : Nat) (a : Acu) : Acu :=
  match a.waiting with
  | some w => if w.applyPoint ≤ rn then { a with active := some w.angle, waiting := none } else a
  | none => a

/-- The apply point after a PRU restart (R25). -/
def rebaseApplyPoint (s : State) : State :=
  { s with acu := { s.acu with
      waiting := s.acu.waiting.map fun w => { w with applyPoint := 1 + s.store.setup.angles.latency } } }

/-! ## CFP margin (R36 to R38) -/

/-- The decay at a usable reference point, when the hold timer is STOPPED and the measurement is not stale (R37). -/
def decayMargin (decay : Nat) (stale : Bool) (a : Acu) : Acu :=
  if a.cfpHold.isNone && !stale then { a with cfpMargin := a.cfpMargin - decay } else a

/-- The margin at cfp_boost with the hold timer started at the present station time (R36, R38). -/
def holdMargin (s : State) : State :=
  { s with acu := { s.acu with
      cfpMargin := s.store.setup.guard.cfpBoost
      cfpHold := some (s.now + msTicks s.store.setup.guard.cfpHold) } }

/-- The low-voltage test of an accepted sample's clamped Uac (R36). -/
def testVoltage (uac : Nat) (s : State) : State :=
  if uac < s.store.setup.guard.cfpThreshold then holdMargin s else s

/-- Stale onset: the margin at cfp_boost, the hold timer stopped (R38). -/
def forceMargin (s : State) : State :=
  { s with acu := { s.acu with cfpMargin := s.store.setup.guard.cfpBoost, cfpHold := none } }

/-- While stale, the margin follows cfp_boost through a setup record (R38). -/
def followBoost (s : State) : State :=
  if s.meas.stale then { s with acu := { s.acu with cfpMargin := s.store.setup.guard.cfpBoost } } else s

/-! ## Overlap (R30, R31) -/

/-- The entry mu[i][j] of the Commutation Table (08, 8.1). -/
def tableEntry (st : Store) (i j : Nat) : Int :=
  match st.table[i]? with
  | some row => ((row.entries[j]?).getD 0 : Nat)
  | none => 0

/-- The overlap angle mu from the held Id and Uac: the cell and the fractions of R30, the bilinear sum and the one rounding
of R31. -/
def overlap (st : Store) (id uac : Nat) : Nat :=
  let i := min (id / 125) 31
  let fi : Int := id - 125 * i
  let uc := clampNat uac 500 1200
  let j := min ((uc - 500) / 100) 6
  let fj : Int := uc - 500 - 100 * j
  let m0 := tableEntry st i j * 125 + (tableEntry st (i + 1) j - tableEntry st i j) * fi
  let m1 := tableEntry st i (j + 1) * 125 + (tableEntry st (i + 1) (j + 1) - tableEntry st i (j + 1)) * fi
  ((m0 * (100 - fj) + m1 * fj + 6250) / 12500).toNat

/-! ## Applied angle (R27 to R33) -/

/-- An angle with the flags that its computation has set so far. -/
structure Angle where
  value : Nat
  flags : OrderFlags
  deriving DecidableEq, Repr

/-- No flag. -/
def noFlags : OrderFlags := ⟨false, false, false, false⟩

/-- Steps 1 and 2: clamp and step limit (R27, R28). -/
def limitedAngle (v : AngleValues) (active aPrev : Nat) : Angle :=
  let a1 := clampNat active v.alphaMin v.alphaMax
  let a2 := if aPrev + v.stepUp < a1 then aPrev + v.stepUp
    else if a1 + v.stepDown < aPrev then aPrev - v.stepDown
    else a1
  ⟨a2, { noFlags with limited := decide (a1 ≠ active) || decide (a2 ≠ a1) }⟩

/-- Step 5: the margin M (R32). -/
def marginM (gammaRef cfpMargin cfBoost : Nat) (cfInAction : Bool) : Nat :=
  gammaRef + cfpMargin + if cfInAction then cfBoost else 0

/-- Step 6: the gamma cap and its floor (R33). -/
def gammaCap (alphaMin mu m : Nat) (a : Angle) : Angle :=
  let cap : Int := 18000 - mu - m
  let capped := decide (cap < a.value)
  let a3 : Int := if capped then cap else a.value
  let short := decide (a3 < alphaMin)
  ⟨(max a3 alphaMin).toNat, { a.flags with gammaCapped := capped, gammaShort := short }⟩

/-- The mu of the present computation: computed in the inverter role in RUNNING, and otherwise 0 (R30, R31). -/
def presentMu (s : State) : Nat :=
  if s.store.setup.role = .inverter ∧ s.ctl.state = .running then overlap s.store s.meas.heldId s.meas.heldUac
  else 0

/-- The applied angle of a computation in the present firing state (R27 to R33). The test angle is present throughout
TESTING (R29). -/
def appliedAngle (s : State) : Angle :=
  let v := s.store.setup.angles
  match s.ctl.state with
  | .retard => ⟨v.alphaRetard, noFlags⟩
  | .testing => ⟨s.acu.testAngle.getD v.alphaMin, noFlags⟩
  | _ =>
    let a := limitedAngle v (activeAlpha s) s.acu.aPrev
    match s.store.setup.role with
    | .rectifier => a
    | .inverter =>
      gammaCap v.alphaMin (presentMu s)
        (marginM v.gammaRef s.acu.cfpMargin s.store.setup.guard.cfBoost (isInAction s .commutationFail)) a

/-! ## Firing orders (R34) -/

/-- One of the two orders of a computation, due `angle` after the reference point. -/
def orderFor (s : State) (r : RefPoint) (a : Angle) (v : Valve) (angle : Nat) : Order where
  valve := v
  kind := if s.ctl.state = .testing then .test else .normal
  due := r.time + angleTicks r.period angle
  angle := some a.value
  mu := if s.store.setup.role = .inverter then some (presentMu s) else none
  rn := some r.rn
  flags := a.flags

/-- The Y order of a computation (R34). -/
def orderY (s : State) (r : RefPoint) (a : Angle) : Order := orderFor s r a (yValve s.store r.kind) a.value

/-- The D order of a computation, 30 degrees and dtrim later (R34). -/
def orderD (s : State) (r : RefPoint) (a : Angle) : Order :=
  orderFor s r a (dValve s.store r.kind) (a.value + 3000 + s.store.setup.angles.dtrim).toNat

/-- Step 3 of the work at a usable point in a firing state: the angle, a_prev, and the Y and D orders (R26, R33, R34). -/
def makeOrders (r : RefPoint) (s : State) : State :=
  let a := appliedAngle s
  let y := orderY s r a
  let d := orderD s r a
  takeOrder d (takeOrder y { s with acu := { s.acu with aPrev := a.value } })

/-- The ACU's work at a usable reference point (R26). -/
def usablePoint (r : RefPoint) (s : State) : State :=
  let acu := decayMargin s.store.setup.guard.cfpDecay s.meas.stale (applyPending r.rn s.acu)
  let s := { s with acu := acu }
  if isFiring s.ctl.state then makeOrders r s else s

/-- A reference point as the rest of the part takes it: handed to the ACU only when usable (R9). -/
def takePoint (r : RefPoint) (s : State) : State := if isUsable r then usablePoint r s else s

end Sys2Proof.Machine
end

