-- ==== Sys2Proof/Machine/Resolver.lean ====
section
/-! DEFINITION. The Protection Resolver (06) short of its grants: edges, conditions, ends, and the choice of the next grant. The
grants themselves, whose stop demands act on the converter, are in Machine/Converter.lean. -/

namespace Sys2Proof.Machine

/-- Put a source into the pending set. -/
def makePending (src : Source) (s : State) : State :=
  { s with prot := { s.prot with waiting := putSource s.prot.waiting src true } }

/-- Take a source out of the pending set. -/
def withdraw (src : Source) (s : State) : State :=
  { s with prot := { s.prot with waiting := putSource s.prot.waiting src false } }

/-- An edge of a source: the repeat mark when it is in action, and otherwise PENDING (R100). -/
def raiseEdge (src : Source) (s : State) : State :=
  if isInAction s src then { s with prot := { s.prot with repeats := putSource s.prot.repeats src true } }
  else makePending src s

/-- A COMMUTATION_FAIL edge with its count in the CF run, which at cf_limit raises a VALVE_TRIP edge (R100, R110). -/
def raiseCommutationFail (s : State) : State :=
  let s := raiseEdge .commutationFail s
  let run := s.prot.cfRun + 1
  if s.store.setup.guard.cfLimit ≤ run then
    raiseEdge .valveTrip { s with prot := { s.prot with cfRun := 0, runWindow := none } }
  else
    { s with prot := { s.prot with
        cfRun := run
        runWindow := some (s.now + msTicks s.store.setup.guard.cfWindow) } }

/-! ## Action timers (R107) -/

/-- Duration of a TIMED source's action, in ticks; none for the other end modes (R98, R107). -/
def actionDuration (g : GuardValues) : Source → Option Nat
  | .commutationFail => some (msTicks g.cfHold)
  | .refireLimit => some 0
  | _ => none

/-- The action timer of a source. -/
def actionTimer (p : Resolver) : Source → Option Nat
  | .commutationFail => p.cfTimer
  | .refireLimit => p.refireTimer
  | _ => none

/-- Set the action timer of a source. -/
def setActionTimer (src : Source) (t : Option Nat) (p : Resolver) : Resolver :=
  match src with
  | .commutationFail => { p with cfTimer := t }
  | .refireLimit => { p with refireTimer := t }
  | _ => p

/-! ## Ends (R109) -/

/-- Steps 1 and 2 of an end: out of the list, timer stopped, trip line released (R109, R106). -/
def stopAction (src : Source) (s : State) : State :=
  let p := setActionTimer src none s.prot
  { s with prot := { p with
      inAction := p.inAction.filter fun a => decide (a.source ≠ src)
      tripLine := p.tripLine && decide (src ≠ .valveTrip) } }

/-- Step 4 of an end: the place of the source afterwards (R109, R99). -/
def placeEnded (src : Source) (s : State) : State :=
  if isEdgeSource src && hasSource s.prot.repeats src then
    makePending src { s with prot := { s.prot with repeats := putSource s.prot.repeats src false } }
  else if conditionHolds s src then makePending src s
  else s

/-- The end of a source with its cause, short of the grant evaluation that it calls for (R109). -/
def endSource (src : Source) (cause : EndCause) (s : State) : State :=
  placeEnded src (notify (.noticeEnd src cause s.now) (stopAction src s))

/-! ## Conditions (R101) -/

/-- One condition source brought into step with its condition (R101, R99). -/
def rereadOne (src : Source) (s : State) : State :=
  if conditionHolds s src then
    if isInAction s src then s else makePending src s
  else if isInAction s src then
    if isClearedSource src then endSource src .cleared s else s
  else withdraw src s

/-- Every condition re-read, in rising source number (R101, log 15). -/
def rereadConditions (s : State) : State :=
  [Source.phaseLost, .linkLost, .measureStale, .levelDegraded, .orderStale].foldl (fun s src => rereadOne src s) s

/-! ## Choice of a grant (R102) -/

/-- The highest-priority source that is pending and not masked. -/
def highestPending (s : State) : Option Source :=
  allSources.find? fun src => isPending s src && !hasSource s.prot.masks src

/-- The source is of higher priority than every source in action. -/
def outranksAction (s : State) (src : Source) : Bool :=
  s.prot.inAction.all fun a => decide (sourceNumber src < sourceNumber a.source)

/-- The next source to grant under the nesting mode in force (R102). -/
def nextGrant (s : State) : Option Source :=
  match highestPending s with
  | some src =>
    match s.store.setup.nesting with
    | .openMode => some src
    | .nested => if outranksAction s src then some src else none
  | none => none

/-- The move of a granted source, with its grant time, and its notice (R102 steps 1 and 2). -/
def moveToAction (src : Source) (s : State) : State :=
  let s := withdraw src s
  let s := { s with prot := { s.prot with inAction := s.prot.inAction ++ [⟨src, s.now⟩] } }
  notify (.noticeGrant src (sourceAction src) s.now) s

/-- The start of a TIMED source's action timer; a duration of 0 ends the source at once (R107). -/
def startTimed (src : Source) (s : State) : State :=
  match actionDuration s.store.setup.guard src with
  | some d =>
    let s := { s with prot := setActionTimer src (some (s.now + d)) s.prot }
    if d = 0 then endSource src .timed s else s
  | none => s

/-! ## Order of the in-action list (R103) -/

/-- Put an entry before the first entry of higher priority, so that the list runs from the lowest priority to the highest. -/
def insertRising (a : InAction) : List InAction → List InAction
  | [] => [a]
  | b :: bs => if sourceNumber b.source < sourceNumber a.source then a :: b :: bs else b :: insertRising a bs

/-- The in-action list sorted from the lowest-priority source to the highest (R103). -/
def sortRising (l : List InAction) : List InAction := l.foldr insertRising []

/-- The re-sort at a change of the nesting mode from OPEN to NESTED; any other setup leaves the list as it is (R103). -/
def resortOnNesting (before : Nesting) (s : State) : State :=
  if before = .openMode ∧ s.store.setup.nesting = .nested then
    { s with prot := { s.prot with inAction := sortRising s.prot.inAction } }
  else s

end Sys2Proof.Machine
end

