-- ==== Sys2Proof/Machine/Converter.lean ====
section
/-! DEFINITION. The Converter State Controller (07): each change of state whole (R117), the stop demands, and with them the grants
of the Protection Resolver (R102), which close every event of the part. -/

namespace Sys2Proof.Machine

/-- The change of the converter state with its notice and the re-reading of the conditions (R117 steps 2, 4 and 5); the
effects of leaving and entering (steps 1 and 3) are made by the callers before it. -/
def changeState (new : ConvState) (cause : StateCause) (valve : Option Valve) (s : State) : State :=
  let old := s.ctl.state
  rereadConditions (notifyState old new cause valve { s with ctl := { s.ctl with state := new } })

/-- The precheck timer stopped and the ready set emptied, whichever way PRECHECK is left (R122). -/
def leavePrecheck (s : State) : State :=
  { s with ctl := { s.ctl with precheckTimer := none, ready := Vector.replicate 12 false } }

/-- Entry to BLOCKED from any state but UNCONFIGURED (R125). -/
def enterBlocked (cause : StateCause) (valve : Option Valve) (s : State) : State :=
  let s := generatorsOff (discardAll (leavePrecheck s))
  let s := { s with ctl := { s.ctl with retardTimer := none }, acu := { s.acu with testAngle := none } }
  changeState .blocked cause valve s

/-- Entry to PRECHECK (R119). -/
def enterPrecheck (s : State) : State :=
  let s := leavePrecheck s
  let s := { s with ctl := { s.ctl with
      precheckTimer := some (s.now + msTicks s.store.setup.guard.precheckTimeout) } }
  changeState .precheck .deblock none (probeAll (resetWindows s))

/-- Entry to RUNNING, from PRECHECK or from BYPASS (R123). -/
def enterRunning (cause : StateCause) (s : State) : State :=
  let s := clearArmed (leavePrecheck s)
  let s := { s with
    acu := { s.acu with aPrev := s.store.setup.angles.alphaStart }
    ctl := { s.ctl with lastY := none, lastD := none } }
  changeState .running cause none s

/-- Entry to BYPASS: the pairs are chosen from the marks as they stand (R126, R48, R69, R68). -/
def enterBypass (cause : StateCause) (s : State) : State :=
  let y := pairY s.ctl.lastY
  let d := pairD s.ctl.lastD
  let s := generatorsOffExcept [y.1, y.2, d.1, d.2] s
  changeState .bypass cause none (bypassFirings y d s)

/-- Entry to RETARD; a retard_time of 0 goes on to BLOCKED in the same event, after the first change (R128, log 18). -/
def enterRetard (cause : StateCause) (s : State) : State :=
  let d := msTicks s.store.setup.guard.retardTime
  let s := changeState .retard cause none { s with ctl := { s.ctl with retardTimer := some (s.now + d) } }
  if d = 0 then enterBlocked .retardEnd none s else s

/-- Entry to TESTING, at a start and at a resume (R129, R132, R96). -/
def enterTesting (cause : StateCause) (s : State) : State :=
  changeState .testing cause none (resetWindows s)

/-- Entry to TEST_HELD (R131). -/
def enterTestHeld (s : State) : State :=
  changeState .testHeld .testSuspend none (generatorsOff (discardAll s))

/-- The end of a FIXED test run whose remaining count has come to 0: after the firing that caused it (R130, R50, log 16). -/
def endTestRun (s : State) : State :=
  if s.ctl.state = .testing ∧ s.ctl.testMode = .fixed ∧ s.ctl.remaining = 0 then
    enterBlocked .testDone none { s with ctl := { s.ctl with testDone := true } }
  else s

/-! ## Stop demands (R127) -/

/-- The stop demand of a granted source, by the state in which it is taken (R104, R127). -/
def stopDemand (src : Source) (s : State) : State :=
  match s.ctl.state with
  | .running =>
    match s.store.setup.role with
    | .inverter => enterBypass (.source src) s
    | .rectifier => enterRetard (.source src) s
  | .precheck => enterBlocked (.source src) none s
  | .testing => enterBlocked (.source src) none s
  | .testHeld => enterBlocked (.source src) none s
  | .bypass => s
  | .retard => s
  | .blocked => s
  | .unconfigured => s

/-! ## Grants (R102) -/

/-- The start of a granted source's action (R104 to R107). -/
def startAction (src : Source) (s : State) : State :=
  match sourceAction src with
  | .trip => stopDemand src { s with prot := { s.prot with tripLine := true } }
  | .stop => stopDemand src s
  | .advance => startTimed src s
  | .alarm => startTimed src s

/-- One grant whole (R102). -/
def grantOne (src : Source) (s : State) : State := startAction src (moveToAction src s)

/-- Grants until a pass grants nothing. The bound is never reached: a source comes back to PENDING within one event only
through a condition that a converter change of a stop demand makes true, and those changes end at BYPASS, RETARD or
BLOCKED. -/
def grantLoop : Nat → State → State
  | 0, s => s
  | n + 1, s =>
    match nextGrant s with
    | some src => grantLoop n (grantOne src s)
    | none => s

/-- The close of an event: the conditions are re-read as its effects have left them, and the grants follow (R101, R102). -/
def settle (s : State) : State := grantLoop 32 (rereadConditions s)

end Sys2Proof.Machine
end

