-- ==== Sys2Proof/Machine/Phase.lean ====
section
/-! DEFINITION. The Phase Reference Unit (01): predictions, crossings, expiries, lock states and restarts. -/

namespace Sys2Proof.Machine

/-- The prediction made from the present T_ref, P and lock state (R4). -/
def makePrediction (w : Nat) (u : Pru) : Pru :=
  { u with pred := some ⟨u.tRef + (u.p + 3) / 6, w, if u.lock = .acquiring then 4 * w else w⟩ }

/-- The PRU in UNLOCKED without prediction and with its lock counts at 0 (R16). -/
def fallUnlocked (u : Pru) : Pru :=
  { u with lock := .unlocked, pred := none, k := 0, good := 0, flywheel := 0, holdover := 0 }

/-- The forced restart (R17). -/
def restartPru (fNom : Nat) : Pru := ⟨.unlocked, pNom fNom, 0, 0, 0, none, 0, 0, 0, 0⟩

/-- A PRU restart with the rebase of a pending order's apply point (R17, R25). -/
def restartPhase (s : State) : State :=
  rebaseApplyPoint { s with pru := restartPru s.store.setup.phase.fNom }

/-- Acquisition starts at crossing time `t` (R12). -/
def startAcquisition (ph : PhaseValues) (t : Nat) (u : Pru) : Pru :=
  makePrediction ph.w
    { u with lock := .acquiring, tRef := t, p := pNom ph.fNom, k := 1, good := 0, flywheel := 0, holdover := 0 }

/-- One more rejected crossing (R11). -/
def countDistorted (u : Pru) : Pru := { u with distorted := satSucc u.distorted }

/-! ## Lock counts -/

/-- Entry to LOCKED zeroes the three counts (R14). -/
def enterLocked (u : Pru) : Pru := { u with lock := .locked, good := 0, flywheel := 0, holdover := 0 }

/-- The lock counts and state after an accepted crossing, `good` when |e| is at most W_p (R13 to R15). -/
def lockOnAccept (isGood : Bool) (u : Pru) : Pru :=
  match u.lock with
  | .acquiring =>
    if isGood then
      if 12 ≤ u.good + 1 then enterLocked u else { u with good := u.good + 1, flywheel := 0 }
    else { u with good := 0, flywheel := 0 }
  | .locked => { u with flywheel := 0 }
  | .holdover => if 3 ≤ u.good + 1 then enterLocked u else { u with good := u.good + 1 }
  | .unlocked => u

/-- The lock counts and state after an expiry (R13 to R16). -/
def lockOnExpiry (holdoverLimit : Nat) (u : Pru) : Pru :=
  match u.lock with
  | .acquiring =>
    if 6 ≤ u.flywheel + 1 then fallUnlocked u else { u with good := 0, flywheel := u.flywheel + 1 }
  | .locked =>
    if 3 ≤ u.flywheel + 1 then
      { u with lock := .holdover, flywheel := u.flywheel + 1, holdover := 3, good := 0 }
    else { u with flywheel := u.flywheel + 1 }
  | .holdover =>
    if holdoverLimit ≤ u.holdover + 1 then fallUnlocked u
    else { u with good := 0, holdover := u.holdover + 1 }
  | .unlocked => u

/-- A prediction unless the event leaves the PRU in UNLOCKED (R4). -/
def predictIfLocked (w : Nat) (u : Pru) : Pru := if u.lock = .unlocked then u else makePrediction w u

/-- The reference point that an event has made: its kind and lock state from before the event, the rest from after the
update of the reference (R9). -/
def pointOf (before after : Pru) : RefPoint := ⟨before.k, after.rn, after.tRef, after.p, before.lock⟩

/-! ## Crossings and expiries -/

/-- The error of a crossing at time `t` against a prediction (R5). -/
def crossingError (q : Prediction) (t : Nat) : Int := (t : Int) - q.tPred

/-- The correction of P and T_ref, and the advance of k and RN, at an accepted crossing of error `e` (R5 steps 2 to 4). -/
def correctReference (ph : PhaseValues) (q : Prediction) (e : Int) (u : Pru) : Pru :=
  { u with
    p := (clampInt (u.p + truncDiv (3 * e) 8) (pMin ph.fNom) (pMax ph.fNom)).toNat
    tRef := (q.tPred + truncDiv e 4).toNat
    k := (u.k + 1) % 6
    rn := u.rn + 1 }

/-- The PRU after an accepted crossing, and the reference point made (R5). -/
def acceptCrossing (ph : PhaseValues) (q : Prediction) (e : Int) (u : Pru) : Pru × RefPoint :=
  let u1 := correctReference ph q e u
  (makePrediction ph.w (lockOnAccept (decide (e.natAbs ≤ q.wp)) u1), pointOf u u1)

/-- The PRU after an expiry of the prediction `q`, and the flywheel reference point made (R8). -/
def takeExpiry (ph : PhaseValues) (q : Prediction) (u : Pru) : Pru × RefPoint :=
  let u1 := { u with tRef := q.tPred, k := (u.k + 1) % 6, rn := u.rn + 1 }
  (predictIfLocked ph.w (lockOnExpiry ph.holdoverLimit u1), pointOf u u1)

/-- The PRU and the reference point, if any, after a crossing of a kind at crossing time `t` (R3, R5, R6, R12). A crossing
of the expected kind outside its window is rejected; R7 shows that it is then early (log 13). -/
def pruCrossing (ph : PhaseValues) (kind t : Nat) (u : Pru) : Pru × Option RefPoint :=
  match u.lock, u.pred with
  | .unlocked, _ => (if kind = 0 then startAcquisition ph t u else u, none)
  | _, some q =>
    if kind = u.k then
      let e := crossingError q t
      if e.natAbs ≤ q.wEff then
        let r := acceptCrossing ph q e u
        (r.1, some r.2)
      else (countDistorted u, none)
    else (countDistorted u, none)
  | _, none => (countDistorted u, none)

/-- The crossing time: the arrival time less the lag, 0 when the lag exceeds it (R2). -/
def crossingTime (now lag : Nat) : Nat := now - lag

/-- The part's state with the PRU's new state and the point it made taken by the ACU (R9). -/
def afterPru (r : Pru × Option RefPoint) (s : State) : State :=
  match r.2 with
  | some p => takePoint p { s with pru := r.1 }
  | none => { s with pru := r.1 }

/-- A crossing taken at the present station time, with all that it makes (R2, R3). -/
def takeCrossing (kind lag : Nat) (s : State) : State :=
  afterPru (pruCrossing s.store.setup.phase kind (crossingTime s.now lag) s.pru) s

/-- The armed expiry taken, with all that it makes (R8). -/
def takeArmedExpiry (s : State) : State :=
  match s.pru.pred with
  | some q =>
    let r := takeExpiry s.store.setup.phase q s.pru
    afterPru (r.1, some r.2) s
  | none => s

end Sys2Proof.Machine
end

