-- ==== Sys2Proof/Machine/Requests.lean ====
section
/-! DEFINITION. How the port takes the request at the head of its queue and what every taken request does (R164, R143, R169),
shared by the request rows of the table. -/

namespace Sys2Proof.Machine

/-- A request that leaves an open setup sequence at its step whatever happens to it (R143). -/
def isReadOnly : RequestKind → Bool
  | .status => true
  | .protStatus => true
  | .historyRead => true
  | .tableRead => true
  | _ => false

/-- A record of the setup sequence (R138, R139). -/
def isSetupRecord : RequestKind → Bool
  | .setupBegin => true
  | .setupPhase => true
  | .setupAngles => true
  | .setupGuard => true
  | .setupLevels => true
  | .setupEnd => true
  | _ => false

/-- The setup sequence closed (R143, R135). -/
def closeSequence (s : State) : State := { s with store := { s.store with step := 0 } }

/-- The order timer started at order_timeout from the present station time (R169). -/
def restartOrderTimer (s : State) : State :=
  { s with port := { s.port with orderTimer := some (s.now + msTicks s.store.setup.guard.orderTimeout) } }

/-- What the taking of a request does before its own rule: it abandons an open sequence unless it is read-only or a setup
record (R143), and an ANGLE_ORDER restarts the order timer whatever its reply (R169). -/
def takenEffects (k : RequestKind) (s : State) : State :=
  let s := if isReadOnly k || isSetupRecord k then s else closeSequence s
  if k = .angleOrder then restartOrderTimer s else s

/-- The head of the queue, when the port takes it now and it is of kind `k`: its tag, its request (none for a bad body
length), and the state with the frame out of the queue (R164). -/
def takeHead (k : RequestKind) (s : State) : Option (Nat × Option Request × State) :=
  match s.port.requests with
  | f :: rest =>
    if requestReady s then
      let popped := { s with port := { s.port with requests := rest } }
      match f.body with
      | .request r => if requestKind r = k then some (f.tag, some r, popped) else none
      | .badLength k' => if k' = k then some (f.tag, none, popped) else none
      | .unknownKind _ => none
    else none
  | [] => none

/-- A request row: when the port takes a request of its kind, the request's event whole, closed by the resolver; a body of
another length is answered RANGE (R164). When the port takes no such request the row is no event (log 4). -/
def serve (k : RequestKind) (f : Nat → Request → State → State) (s : State) : State :=
  match takeHead k s with
  | some (tag, body, s) =>
    let s := takenEffects k s
    settle <|
      match body with
      | some r => f tag r s
      | none => reply k tag .range .empty s
  | none => s

/-- A refusal, which carries its code alone (R165). -/
def refuse (k : RequestKind) (tag : Nat) (code : Completion) (s : State) : State := reply k tag code .empty s

/-- The first check that fails gives the completion code; when none fails, the request is carried out (R118). -/
def checked (k : RequestKind) (tag : Nat) (refusal : Option Completion) (accepted : State → State) (s : State) : State :=
  match refusal with
  | some code => refuse k tag code s
  | none => accepted s

/-- An acceptance with nothing to carry. -/
def accept (k : RequestKind) (tag : Nat) (s : State) : State := reply k tag .done .empty s

end Sys2Proof.Machine
end

