-- ==== Sys2Proof/Machine/ConverterCommands.lean ====
section
/-! DEFINITION. The converter requests, the angle order and the two restarts (07, 02 R22, 01 R17). -/

namespace Sys2Proof.Machine

/-! ## Deblock and block -/

/-- The checks that DEBLOCK and TEST_START share, in their order of refusal; `lockOk` is the PRU's lock check (R119,
R129). -/
def startRefusal (lockOk : Bool) (tableGen mapGen : Nat) (s : State) : Option Completion :=
  if !tableComplete s.store then some .incomplete
  else if !signatureMatches s.store tableGen mapGen then some .signature
  else if !lockOk then some .phase
  else if stopInAction s then some .protection
  else none

/-- DEBLOCK's checks after those of state and range (R119, R123). -/
def deblockRefusal (lockOk : Bool) (tableGen mapGen : Nat) (s : State) : Option Completion :=
  match startRefusal lockOk tableGen mapGen s with
  | some code => some code
  | none => if redundancyLost s then some .redundancy else none

/-- A generation as carried lies in 0..65,535 (R119, R129). -/
def generationsInRange (tableGen mapGen : Nat) : Bool :=
  decide (tableGen ≤ Config.maxWord) && decide (mapGen ≤ Config.maxWord)

/-- DEBLOCK: to PRECHECK from BLOCKED (R119), to RUNNING from BYPASS with the holds run down as trains (R123, R70). -/
def takeDeblock (tag tableGen mapGen : Nat) (s : State) : State :=
  match s.ctl.state with
  | .blocked =>
    if !generationsInRange tableGen mapGen then refuse .deblock tag .range s
    else
      checked .deblock tag (deblockRefusal (decide (s.pru.lock = .locked)) tableGen mapGen s)
        (fun s => enterPrecheck (accept .deblock tag s)) s
  | .bypass =>
    if !generationsInRange tableGen mapGen then refuse .deblock tag .range s
    else
      checked .deblock tag
        (deblockRefusal (decide (s.pru.lock = .locked) || decide (s.pru.lock = .holdover)) tableGen mapGen s)
        (fun s => enterRunning .deblock (holdsToTrains (accept .deblock tag s))) s
  | _ => refuse .deblock tag .state s

/-- BLOCK (R124). -/
def takeBlock (tag : Nat) (s : State) : State :=
  match s.ctl.state with
  | .unconfigured => refuse .block tag .state s
  | .blocked => accept .block tag s
  | _ => enterBlocked .block none (accept .block tag s)

/-- BYPASS (R126). -/
def takeBypass (tag : Nat) (s : State) : State :=
  match s.ctl.state with
  | .running => enterBypass .bypass (accept .bypass tag s)
  | _ => refuse .bypass tag .state s

/-! ## Test runs -/

/-- The test run's values at an accepted TEST_START (R129, R29). -/
def beginTest (alpha count : Nat) (s : State) : State :=
  let v := s.store.setup.angles
  let n := if count = 0 then Config.maxWord else count
  { s with
    acu := { s.acu with testAngle := some (clampNat alpha v.alphaMin v.alphaMax) }
    ctl := { s.ctl with
      testMode := if count = 0 then .continuous else .fixed
      programmed := n
      remaining := n
      wraps := 0 } }

/-- TEST_START's range check (R129). -/
def testInRange (alpha count tableGen mapGen : Nat) : Bool :=
  decide (alpha ≤ 18000) && decide (count ≤ Config.maxWord) && generationsInRange tableGen mapGen

/-- TEST_START (R129). -/
def takeTestStart (tag alpha count tableGen mapGen : Nat) (s : State) : State :=
  match s.ctl.state with
  | .blocked =>
    if !testInRange alpha count tableGen mapGen then refuse .testStart tag .range s
    else
      checked .testStart tag (startRefusal (decide (s.pru.lock = .locked)) tableGen mapGen s)
        (fun s => enterTesting .testStart (beginTest alpha count (accept .testStart tag s))) s
  | _ => refuse .testStart tag .state s

/-- TEST_SUSPEND (R131). -/
def takeTestSuspend (tag : Nat) (s : State) : State :=
  match s.ctl.state with
  | .testing => enterTestHeld (accept .testSuspend tag s)
  | _ => refuse .testSuspend tag .state s

/-- TEST_RESUME (R132). -/
def takeTestResume (tag : Nat) (s : State) : State :=
  match s.ctl.state with
  | .testHeld =>
    if stopInAction s then refuse .testResume tag .protection s
    else enterTesting .testResume (accept .testResume tag s)
  | _ => refuse .testResume tag .state s

/-! ## Angle order and restarts -/

/-- ANGLE_ORDER (R22, R23). -/
def takeAngleOrder (tag alpha : Nat) (s : State) : State :=
  if 18000 < alpha then refuse .angleOrder tag .range s
  else takeAngle alpha (accept .angleOrder tag s)

/-- PHASE_RESTART (R17). -/
def takePhaseRestart (tag : Nat) (s : State) : State :=
  if isAtRest s.ctl.state then restartPhase (accept .phaseRestart tag s)
  else refuse .phaseRestart tag .state s

/-- The ACU after RESTART (R40). -/
def restartAcu (s : State) : Acu :=
  ⟨none, none, s.store.setup.angles.alphaStart, none,
    if s.meas.stale then s.store.setup.guard.cfpBoost else 0, none⟩

/-- A valve's monitoring after RESTART: its entries are kept (R96). -/
def restartMonitor (m : ValveMonitor) : ValveMonitor := ⟨m.levels, 0, false, 0, false, false⟩

/-- The resolver as after either reset (R116). -/
def resetResolver : Resolver := ⟨noSources, [], noSources, noSources, none, none, 0, none, false⟩

/-- The controller after RESTART: its state is kept (R135, R136). -/
def restartController (c : Controller) : Controller :=
  ⟨c.state, none, Vector.replicate 12 false, none, none, none, .fixed, 1, 0, 0, false⟩

/-- RESTART's effect over all blocks (R20, R40, R58, R74, R96, R116, R135, R150, R158, R171). The Measurement Receiver, the
queues and the timers of the port, the tables, the setup values and the probe light are kept. -/
def restartPart (s : State) : State :=
  { s with
    pru := restartPru s.store.setup.phase.fNom
    acu := restartAcu s
    cal := ⟨[], 0, 0, 0, []⟩
    gens := Vector.replicate 12 generatorOff
    monitors := s.monitors.map restartMonitor
    snapshot := none
    prot := resetResolver
    ctl := restartController s.ctl
    store := { s.store with step := 0 }
    port := { s.port with noticeLost := false } }

/-- RESTART (R135). -/
def takeRestart (tag : Nat) (s : State) : State :=
  if isAtRest s.ctl.state then restartPart (accept .restart tag s)
  else refuse .restart tag .state s

/-! ## Meanings -/

/-- DEBLOCK (R119, R123). -/
def execDeblock (s : State) : Host.Outcome State Fault Refusal :=
  .next (serve .deblock (fun tag r s => match r with | .deblock tg mg => takeDeblock tag tg mg s | _ => s) s)

/-- BLOCK (R124). -/
def execBlock (s : State) : Host.Outcome State Fault Refusal :=
  .next (serve .block (fun tag _ s => takeBlock tag s) s)

/-- BYPASS (R126). -/
def execBypass (s : State) : Host.Outcome State Fault Refusal :=
  .next (serve .bypass (fun tag _ s => takeBypass tag s) s)

/-- TEST_START (R129). -/
def execTestStart (s : State) : Host.Outcome State Fault Refusal :=
  .next (serve .testStart
    (fun tag r s => match r with | .testStart a c tg mg => takeTestStart tag a c tg mg s | _ => s) s)

/-- TEST_SUSPEND (R131). -/
def execTestSuspend (s : State) : Host.Outcome State Fault Refusal :=
  .next (serve .testSuspend (fun tag _ s => takeTestSuspend tag s) s)

/-- TEST_RESUME (R132). -/
def execTestResume (s : State) : Host.Outcome State Fault Refusal :=
  .next (serve .testResume (fun tag _ s => takeTestResume tag s) s)

/-- ANGLE_ORDER (R22). -/
def execAngleOrder (s : State) : Host.Outcome State Fault Refusal :=
  .next (serve .angleOrder (fun tag r s => match r with | .angleOrder a => takeAngleOrder tag a s | _ => s) s)

/-- PHASE_RESTART (R17). -/
def execPhaseRestart (s : State) : Host.Outcome State Fault Refusal :=
  .next (serve .phaseRestart (fun tag _ s => takePhaseRestart tag s) s)

/-- RESTART (R135). -/
def execRestart (s : State) : Host.Outcome State Fault Refusal :=
  .next (serve .restart (fun tag _ s => takeRestart tag s) s)

/-- POWER_ON: every block at its initial values; no notice is sent (R136). The commands that wait outside the part are
kept. -/
def execPowerOn (s : State) : Host.Outcome State Fault Refusal :=
  .next { State.reset with pending := s.pending }

end Sys2Proof.Machine
end

