-- ==== Sys2Proof/Machine/LevelCommands.lean ====
section
/-! DEFINITION. The requests of the Level Monitor (R89, R90, R92 to R95). -/

namespace Sys2Proof.Machine

/-- The levels of one valve replaced. -/
def setLevels (v : Valve) (levels : List LevelEntry) (s : State) : State :=
  setMonitor v { s.monitors[v] with levels := levels } s

/-- The valve of a carried number, when it and the level are in range (R89, R90). -/
def levelTarget (valve level : Nat) (s : State) : Option Valve :=
  if inRange level 1 s.store.setup.levels.nL then valveOfNumber? valve else none

/-- LEVEL_CLEAR of one level or of the whole valve (R89). -/
def takeLevelClear (tag valve : Nat) (level : Option Nat) (s : State) : State :=
  if s.ctl.state ≠ .blocked then refuse .levelClear tag .state s
  else
    match levelTarget valve (level.getD 1) s with
    | none => refuse .levelClear tag .range s
    | some v => setLevels v (clearLevels level s.monitors[v].levels) (accept .levelClear tag s)

/-- LEVEL_EXCLUDE (R90). -/
def takeLevelExclude (tag valve level : Nat) (s : State) : State :=
  if s.ctl.state ≠ .blocked then refuse .levelExclude tag .state s
  else
    match levelTarget valve level s with
    | none => refuse .levelExclude tag .range s
    | some v =>
      setLevels v (s.monitors[v].levels.modify (level - 1) (excludeLevel s.now)) (accept .levelExclude tag s)

/-- LEVEL_LATCH (R92). -/
def takeLevelLatch (tag : Nat) (s : State) : State :=
  match s.snapshot with
  | some c => reply .levelLatch tag .held (.latchTime c.latchTime) s
  | none => reply .levelLatch tag .done (.latchTime s.now) { s with snapshot := some (takeSnapshot s) }

/-- LEVEL_RELEASE (R93). -/
def takeLevelRelease (tag : Nat) (s : State) : State :=
  accept .levelRelease tag { s with snapshot := none }

/-- LEVEL_READ (R94). -/
def takeLevelRead (tag valve first : Nat) (s : State) : State :=
  match s.snapshot with
  | none => refuse .levelRead tag .noSnapshot s
  | some c =>
    match if inRange first 1 c.nL then valveOfNumber? valve else none with
    | none => refuse .levelRead tag .range s
    | some v =>
      reply .levelRead tag .done (.levels ⟨c.latchTime, c.nL, c.failed[v], readEntries c v first⟩) s

/-- LEVEL_FIND (R95). -/
def takeLevelFind (tag valve level : Nat) (states : List (Option LevelState)) (s : State) : State :=
  match s.snapshot with
  | none => refuse .levelFind tag .noSnapshot s
  | some c =>
    if inRange valve 1 12 && inRange level 1 c.nL && states.all (·.isSome) then
      let r := scanSnapshot c valve level (states.filterMap id)
      reply .levelFind tag r.1 r.2 s
    else refuse .levelFind tag .range s

/-! ## Meanings -/

/-- LEVEL_LATCH (R92). -/
def execLevelLatch (s : State) : Host.Outcome State Fault Refusal :=
  .next (serve .levelLatch (fun tag _ s => takeLevelLatch tag s) s)

/-- LEVEL_READ (R94). -/
def execLevelRead (s : State) : Host.Outcome State Fault Refusal :=
  .next (serve .levelRead (fun tag r s => match r with | .levelRead v f => takeLevelRead tag v f s | _ => s) s)

/-- LEVEL_FIND (R95). -/
def execLevelFind (s : State) : Host.Outcome State Fault Refusal :=
  .next (serve .levelFind
    (fun tag r s => match r with | .levelFind v l states => takeLevelFind tag v l states s | _ => s) s)

/-- LEVEL_RELEASE (R93). -/
def execLevelRelease (s : State) : Host.Outcome State Fault Refusal :=
  .next (serve .levelRelease (fun tag _ s => takeLevelRelease tag s) s)

/-- LEVEL_CLEAR (R89). -/
def execLevelClear (s : State) : Host.Outcome State Fault Refusal :=
  .next (serve .levelClear (fun tag r s => match r with | .levelClear v l => takeLevelClear tag v l s | _ => s) s)

/-- LEVEL_EXCLUDE (R90). -/
def execLevelExclude (s : State) : Host.Outcome State Fault Refusal :=
  .next (serve .levelExclude
    (fun tag r s => match r with | .levelExclude v l => takeLevelExclude tag v l s | _ => s) s)

end Sys2Proof.Machine
end

