-- ==== Sys2Proof/Machine/LinkCommands.lean ====
section
/-! DEFINITION. The Control Link Port's own rows (10): the sending of records, unknown requests, STATUS and HISTORY_READ, the link
and order timers, and what a good frame does. The arrival of frames is in Machine/LineCommands.lean. -/

namespace Sys2Proof.Machine

/-! ## Frames of the control link -/

/-- A good frame restarts the link timer and ends the link-silent condition (R163, R168). -/
def touchLink (s : State) : State :=
  { s with port := { s.port with
      linkTimer := some (s.now + msTicks s.store.setup.guard.linkTimeout)
      linkSilent := false } }

/-- A frame joins the queue when there is room, and is otherwise discarded (R163). -/
def enqueue (f : ControlFrame) (s : State) : State :=
  if s.port.requests.length < Config.requestQueueCapacity then
    { s with port := { s.port with requests := s.port.requests ++ [f] } }
  else s

/-- A good frame of the control link taken in its own event (R163). -/
def takeControlFrame (f : ControlFrame) (s : State) : State := settle (enqueue f (touchLink s))

/-! ## Sending (R166) -/

/-- RECORD_SENT: the last CRC byte of the oldest record, whose length byte is `n`, has been sent (R166). A length byte that is
not that record's is no such event (log 4). -/
def execRecordSent (n : Nat) (s : State) : Host.Outcome State Fault Refusal :=
  .next (if sendingLength s.port = some n then onExpiry (sendEnd s.port) dropSent s else s)

/-! ## Unknown requests -/

/-- The tag and kind code of a head frame of unknown kind that the port takes now (R164). -/
def unknownHead (s : State) : Option (Nat × Nat) :=
  match s.port.requests with
  | f :: _ =>
    if requestReady s then
      match f.body with
      | .unknownKind code => some (f.tag, code)
      | .request _ => none
      | .badLength _ => none
    else none
  | [] => none

/-- A frame of unknown kind abandons an open sequence and is answered UNKNOWN with its kind code (R164, R165, R143). -/
def takeUnknown (tag code : Nat) (s : State) : State :=
  let s := { s with port := { s.port with requests := s.port.requests.tail } }
  appendRecord (.unknownReply tag code) (closeSequence s)

/-- UNKNOWN_REQUEST (R164). -/
def execUnknownRequest (s : State) : Host.Outcome State Fault Refusal :=
  .next (match unknownHead s with
    | some (tag, code) => settle (takeUnknown tag code s)
    | none => s)

/-! ## STATUS and HISTORY_READ -/

/-- What STATUS shows (R170, R21, R41, R54, R133). -/
def statusReport (s : State) : StatusReport where
  state := s.ctl.state
  testMode := s.ctl.testMode
  programmed := s.ctl.programmed
  remaining := s.ctl.remaining
  wraps := s.ctl.wraps
  testDone := s.ctl.testDone
  lock := s.pru.lock
  p := s.pru.p
  rn := s.pru.rn
  k := s.pru.k
  distorted := s.pru.distorted
  activeAlpha := activeAlpha s
  pendingOrder := s.acu.waiting
  aPrev := s.acu.aPrev
  cfpMargin := s.acu.cfpMargin
  calendarCount := s.cal.orders.length
  created := s.cal.created
  fired := s.cal.fired
  discarded := s.cal.discarded
  stale := s.meas.stale
  linkSilent := s.port.linkSilent
  noticeLost := s.port.noticeLost
  step := s.store.step
  time := s.now

/-- The test-done and notice-lost flags cleared (R133, R166, R170). -/
def clearShown (s : State) : State :=
  { s with ctl := { s.ctl with testDone := false }, port := { s.port with noticeLost := false } }

/-- STATUS (R170). -/
def takeStatus (tag : Nat) (s : State) : State :=
  clearShown (reply .status tag .done (.status (statusReport s)) s)

/-- The records that a HISTORY_READ from an offset carries (R57). -/
def historyFrom (offset : Nat) (c : Calendar) : List FiringRecord :=
  (c.ring.drop offset).take Config.historyReplyLimit

/-- HISTORY_READ (R57). -/
def takeHistoryRead (tag offset : Nat) (s : State) : State :=
  if 63 < offset then refuse .historyRead tag .range s
  else reply .historyRead tag .done (.history s.cal.ring.length (historyFrom offset s.cal)) s

/-- STATUS (R170). -/
def execStatus (s : State) : Host.Outcome State Fault Refusal :=
  .next (serve .status (fun tag _ s => takeStatus tag s) s)

/-- HISTORY_READ (R57). -/
def execHistoryRead (s : State) : Host.Outcome State Fault Refusal :=
  .next (serve .historyRead (fun tag r s => match r with | .historyRead o => takeHistoryRead tag o s | _ => s) s)

/-! ## Timers (R168, R169) -/

/-- The link falls silent (R168). -/
def silenceLink (s : State) : State := { s with port := { s.port with linkTimer := none, linkSilent := true } }

/-- The order timer expires (R169). -/
def expireOrder (s : State) : State := { s with port := { s.port with orderTimer := none } }

/-- LINK_TIMER_EXPIRY (R168). -/
def execLinkTimerExpiry (s : State) : Host.Outcome State Fault Refusal :=
  .next (onExpiry s.port.linkTimer (fun s => settle (silenceLink s)) s)

/-- ORDER_TIMER_EXPIRY (R169). -/
def execOrderTimerExpiry (s : State) : Host.Outcome State Fault Refusal :=
  .next (onExpiry s.port.orderTimer (fun s => settle (expireOrder s)) s)

end Sys2Proof.Machine
end

