-- ==== Sys2Proof/Machine/MeasurementCommands.lean ====
section
/-! DEFINITION. The measurement line's records and expiries (09, 01, 02): CROSSING, SAMPLE, the armed expiry, staleness and the
CFP hold. -/

namespace Sys2Proof.Machine

/-! ## Crossings and the armed expiry -/

/-- A good CROSSING frame taken in its own event (R157, R3). -/
def takeCrossingFrame (kind lag : Nat) (s : State) : State := settle (endTestRun (takeCrossing kind lag s))

/-- ARMED_EXPIRY (R8). -/
def execArmedExpiry (s : State) : Host.Outcome State Fault Refusal :=
  .next (onExpiry (armedExpiry s.pru) (fun s => settle (endTestRun (takeArmedExpiry s))) s)

/-! ## Samples -/

/-- A sample that carries the sequence number of the last accepted one (R152). -/
def isDuplicate (m : Measurement) (seq : Nat) : Bool := decide (m.lastSeq = some seq)

/-- Steps 1 to 3 of an accepted sample: the number, the clamped values, the stale timer (R153). -/
def holdSample (seq : Nat) (id : Int) (uac : Nat) (s : State) : State :=
  { s with meas := { s.meas with
      lastSeq := some seq
      heldId := (clampInt id 0 4000).toNat
      heldUac := clampNat uac 0 2000
      staleTimer := some (s.now + s.store.setup.guard.staleTimeout * Config.ticksPerStaleUnit) } }

/-- Step 4 of an accepted sample: a stale condition ends, and the CFP hold starts (R153, R155, R38). -/
def endStale (s : State) : State :=
  if s.meas.stale then holdMargin { s with meas := { s.meas with stale := false } } else s

/-- An accepted sample (R153, R36). -/
def acceptSample (seq : Nat) (id : Int) (uac : Nat) (s : State) : State :=
  testVoltage (clampNat uac 0 2000) (endStale (holdSample seq id uac s))

/-- A good SAMPLE frame taken in its own event: a duplicate changes nothing (R152, R153). -/
def takeSampleFrame (seq : Nat) (id : Int) (uac : Nat) (s : State) : State :=
  if isDuplicate s.meas seq then s else settle (acceptSample seq id uac s)

/-! ## Timers -/

/-- The measurement becomes stale (R154, R38). -/
def staleOnset (s : State) : State :=
  forceMargin { s with meas := { s.meas with staleTimer := none, stale := true } }

/-- STALE_TIMER_EXPIRY (R154). -/
def execStaleTimerExpiry (s : State) : Host.Outcome State Fault Refusal :=
  .next (onExpiry s.meas.staleTimer (fun s => settle (staleOnset s)) s)

/-- The CFP hold timer stops and the margin stands (R37). -/
def endCfpHold (s : State) : State := { s with acu := { s.acu with cfpHold := none } }

/-- CFP_HOLD_EXPIRY (R37). -/
def execCfpHoldExpiry (s : State) : Host.Outcome State Fault Refusal :=
  .next (onExpiry s.acu.cfpHold (fun s => settle (endCfpHold s)) s)

end Sys2Proof.Machine
end

