-- ==== Sys2Proof/Machine/Returns.lean ====
section
/-! DEFINITION. The return lines' records (05, 04): RETURN processed whole (R80), and REAPPEAR (R66, R67). -/

namespace Sys2Proof.Machine

/-! ## RETURN -/

/-- The record is accepted (R79). -/
def acceptsReturn (line : Valve) (r : ReturnRecord) (s : State) : Bool :=
  decide (r.valve = valveNumber line) && decide (r.window = s.monitors[line].window) &&
    !s.monitors[line].accepted && (decide (r.window ≠ 0) || decide (s.ctl.state = .precheck))

/-- The present record is a no-voltage record of the valve (R81). -/
def noVoltage (v : Valve) (r : ReturnRecord) (s : State) : Bool :=
  isNoVoltage s.store.setup.levels.nL r s.monitors[v].levels

/-- Step 1 of an accepted record (R80). -/
def markAccepted (v : Valve) (s : State) : State :=
  setMonitor v { s.monitors[v] with accepted := true, missingRun := 0, lost := false } s

/-- Step 3: the armed flag, and the commutation failure test of an armed valve in RUNNING at the inverter (R82). -/
def testCommutation (v : Valve) (r : ReturnRecord) (nv : Bool) (s : State) : State :=
  if r.window ≠ 0 ∧ s.ctl.state = .running then
    if !s.monitors[v].armed then setMonitor v { s.monitors[v] with armed := true } s
    else if nv ∧ s.store.setup.role = .inverter then raiseCommutationFail s
    else s
  else s

/-- Step 4: every live level classified, and the VALVE_TRIP test (R83, R84). -/
def classifyValve (v : Valve) (r : ReturnRecord) (s : State) : State :=
  let before := failedCount s v
  let levels := classifyLevels s.store.setup.levels s.now r s.monitors[v].levels
  let s := setMonitor v { s.monitors[v] with levels := levels } s
  if s.store.setup.levels.redundancy < failedCount s v ∧ before < failedCount s v then raiseEdge .valveTrip s
  else s

/-- The valve joins the ready set (R120). -/
def joinReady (v : Valve) (s : State) : State :=
  { s with ctl := { s.ctl with ready := s.ctl.ready.set v true } }

/-- Step 5: a probe answer handed to the controller (R120 to R122). -/
def probeAnswer (v : Valve) (nv : Bool) (s : State) : State :=
  if s.ctl.state ≠ .precheck then s
  else if nv then enterBlocked .noVoltage (some v) s
  else if s.store.setup.levels.redundancy < failedCount s v then enterBlocked .redundancy (some v) s
  else
    let s := joinReady v s
    if s.ctl.ready.toList.all id then enterRunning .ready s else s

/-- The five steps of an accepted record (R80); the no-voltage test is made on the record as it comes (step 2, R81). -/
def processReturn (v : Valve) (r : ReturnRecord) (s : State) : State :=
  let nv := noVoltage v r s
  let s := testCommutation v r nv (markAccepted v s)
  let s := if nv then s else classifyValve v r s
  if r.window = 0 then probeAnswer v nv s else s

/-- A good RETURN frame taken in its own event (R79, R80): the grants of the record's edges follow its processing (R121). -/
def takeReturnFrame (line : Valve) (r : ReturnRecord) (s : State) : State :=
  if acceptsReturn line r s then settle (processReturn line r s) else s

/-! ## REAPPEAR -/

/-- A refire of a valve in TRAIN or HOLD, with its edge (R66, R67). -/
def refireValve (v : Valve) (s : State) : State :=
  let g := s.gens[v]
  let s' := emitPulse v ⟨.main, s.now, none⟩ (setGenerator v (refireAt s.store.setup.angles s.now g) s)
  if refireReachesLimit s.store.setup.angles g then raiseEdge .refireLimit s' else s'

/-- A good REAPPEAR frame taken in its own event: ignored in OFF, discarded when it names another valve (R66, R67, R162). -/
def takeReappearFrame (line : Valve) (valve : Nat) (s : State) : State :=
  if valve = valveNumber line ∧ s.gens[line].mode ≠ .off then settle (refireValve line s) else s

end Sys2Proof.Machine
end

