-- ==== Sys2Proof/Machine/LineCommands.lean ====
section
/-! DEFINITION. The arrival of frames on the fourteen lines (R160): a good frame is taken where its line's receiver is between
frames, and is otherwise read on into the frame that the receiver is in. -/

namespace Sys2Proof.Machine

/-! ## What bytes bring -/

/-- A frame's outcome taken in its own event (R160, R151, R162, R163). -/
def takeOutcome (o : FrameOutcome) (s : State) : State :=
  match o with
  | .discarded => s
  | .control f => takeControlFrame f s
  | .record (.sample seq id uac) => takeSampleFrame seq id uac s
  | .record (.crossing kind lag) => takeCrossingFrame kind lag s
  | .record (.returnRecord line r) => takeReturnFrame line r s
  | .record (.reappear line valve) => takeReappearFrame line valve s
  | .record _ => s

/-- Bytes that come on a line at the present station time: its receiver reads them, and the frames that they end are taken in
order (R160). -/
def takeBytes (line : Line) (bytes : List Byte) (s : State) : State :=
  let r := receiveBytes line s.now (lineReceiver s.receivers line) bytes
  r.2.foldl (fun s o => takeOutcome o s) { s with receivers := setLineReceiver s.receivers line r.1 }

/-- The arrival of a good frame of these bytes: taken as `good` says where the receiver is between frames, and otherwise read
on, byte by byte, into the frame that the receiver is in (R160, log 9). -/
def arrive (line : Line) (bytes : List Byte) (good : State → State) (s : State) : State :=
  if betweenFrames line s then good (frameEnded line s) else takeBytes line bytes s

/-- The bytes of a partner record that arrives on a line at station time `t`, with its unused tag (R159). -/
def arrivingBytes (line : Line) (t : Nat) (c : Instr) : List Byte :=
  (partnerFrame (Config.partnerTag line t) c).getD []

/-! ## Meanings -/

/-- CONTROL_FRAME (R163). -/
def execControlFrame (f : ControlFrame) (s : State) : Host.Outcome State Fault Refusal :=
  .next (arrive .control (controlFrameBytes f) (takeControlFrame f) s)

/-- CROSSING (R157, R3). -/
def execCrossing (kind lag : Nat) (s : State) : Host.Outcome State Fault Refusal :=
  .next (arrive .measurement (arrivingBytes .measurement s.now (.crossing kind lag)) (takeCrossingFrame kind lag) s)

/-- SAMPLE (R152, R153). -/
def execSample (seq : Nat) (id : Int) (uac : Nat) (s : State) : Host.Outcome State Fault Refusal :=
  .next (arrive .measurement (arrivingBytes .measurement s.now (.sample seq id uac)) (takeSampleFrame seq id uac) s)

/-- RETURN (R79, R80). -/
def execReturnRecord (line : Valve) (r : ReturnRecord) (s : State) : Host.Outcome State Fault Refusal :=
  .next (arrive (.ret line) (arrivingBytes (.ret line) s.now (.returnRecord line r)) (takeReturnFrame line r) s)

/-- REAPPEAR (R66, R67, R162). -/
def execReappear (line : Valve) (valve : Nat) (s : State) : Host.Outcome State Fault Refusal :=
  .next (arrive (.ret line) (arrivingBytes (.ret line) s.now (.reappear line valve)) (takeReappearFrame line valve) s)

/-- DISCARDED_FRAME: the line's receiver reads the bytes and discards the bad frames they end, without effect (R160). A good
frame among them is taken, as R160 says of every good frame (log 9). -/
def execDiscardedFrame (line : Line) (bytes : List Byte) (s : State) : Host.Outcome State Fault Refusal :=
  .next (takeBytes line bytes s)

/-- BYTE_GAP_TIMEOUT: the receiver gives up the frame it is in and hunts again (R160). -/
def execByteGapTimeout (line : Line) (s : State) : Host.Outcome State Fault Refusal :=
  .next (onExpiry (gapExpiry (lineReceiver s.receivers line)) (frameEnded line) s)

end Sys2Proof.Machine
end

