-- ==== Sys2Proof/Machine/ProtectionCommands.lean ====
section
/-! DEFINITION. The requests of the Protection Resolver (R108, R111, R112) and the expiries of its timers (R107, R110). -/

namespace Sys2Proof.Machine

/-! ## Requests -/

/-- PROT_MASK: a set that names a number above 7, or 0, 1 or 2, is out of range (R111). -/
def takeProtMask (tag : Nat) (sources : List Nat) (s : State) : State :=
  if sources.any fun n => decide (7 < n) || decide (n ≤ 2) then refuse .protMask tag .range s
  else accept .protMask tag { s with prot := { s.prot with masks := sourcesOfNumbers sources } }

/-- VALVE_TRIP cannot be ended by the host while some F_v exceeds R (R108). -/
def endBarred (src : Source) (s : State) : Bool := decide (src = .valveTrip) && redundancyLost s

/-- PROT_END (R108). -/
def takeProtEnd (tag source : Nat) (s : State) : State :=
  match sourceOfNumber? source with
  | none => refuse .protEnd tag .range s
  | some src =>
    if !isInAction s src then refuse .protEnd tag .state s
    else if endBarred src s then refuse .protEnd tag .redundancy s
    else endSource src .host (accept .protEnd tag s)

/-- The highest-priority source in action (R108). -/
def topInAction (s : State) : Option Source := allSources.find? (isInAction s)

/-- PROT_END_TOP (R108). -/
def takeProtEndTop (tag : Nat) (s : State) : State :=
  match topInAction s with
  | none => refuse .protEndTop tag .state s
  | some src =>
    if endBarred src s then refuse .protEndTop tag .redundancy s
    else endSource src .host (reply .protEndTop tag .done (.endedSource src) s)

/-- What PROT_STATUS shows (R112). -/
def protectionReport (s : State) : ProtectionReport :=
  ⟨s.prot.waiting, s.prot.inAction, s.prot.cfTimer, s.prot.refireTimer, s.prot.repeats, s.prot.masks,
    s.store.setup.nesting, s.prot.cfRun, s.prot.tripLine⟩

/-- PROT_STATUS (R112). -/
def takeProtStatus (tag : Nat) (s : State) : State :=
  reply .protStatus tag .done (.protection (protectionReport s)) s

/-! ## Timers -/

/-- The CF run falls to 0 (R110). -/
def endRunWindow (s : State) : State := { s with prot := { s.prot with cfRun := 0, runWindow := none } }

/-! ## Meanings -/

/-- PROT_MASK (R111). -/
def execProtMask (s : State) : Host.Outcome State Fault Refusal :=
  .next (serve .protMask (fun tag r s => match r with | .protMask l => takeProtMask tag l s | _ => s) s)

/-- PROT_END (R108). -/
def execProtEnd (s : State) : Host.Outcome State Fault Refusal :=
  .next (serve .protEnd (fun tag r s => match r with | .protEnd n => takeProtEnd tag n s | _ => s) s)

/-- PROT_END_TOP (R108). -/
def execProtEndTop (s : State) : Host.Outcome State Fault Refusal :=
  .next (serve .protEndTop (fun tag _ s => takeProtEndTop tag s) s)

/-- PROT_STATUS (R112). -/
def execProtStatus (s : State) : Host.Outcome State Fault Refusal :=
  .next (serve .protStatus (fun tag _ s => takeProtStatus tag s) s)

/-- ACTION_TIMER_EXPIRY: a TIMED source ends with cause TIMED (R107). -/
def execActionTimerExpiry (src : Source) (s : State) : Host.Outcome State Fault Refusal :=
  .next (onExpiry (actionTimer s.prot src) (fun s => settle (endSource src .timed s)) s)

/-- RUN_WINDOW_EXPIRY (R110). -/
def execRunWindowExpiry (s : State) : Host.Outcome State Fault Refusal :=
  .next (onExpiry s.prot.runWindow (fun s => settle (endRunWindow s)) s)

end Sys2Proof.Machine
end

