-- ==== Sys2Proof/Machine/SetupCommands.lean ====
section
/-! DEFINITION. The Table Store's requests (08): the setup sequence, the Commutation Table and the Valve Map. -/

namespace Sys2Proof.Machine

/-! ## Putting values in force (R141) -/

/-- The setup values replaced. -/
def withSetup (v : Setup) (s : State) : State := { s with store := { s.store with setup := v } }

/-- The sequence step replaced. -/
def withStep (n : Nat) (s : State) : State := { s with store := { s.store with step := n } }

/-- The Level Table formed anew when N_L has changed (R91). -/
def formOnChange (before : Nat) (s : State) : State :=
  if s.store.setup.levels.nL = before then s else formTable s.store.setup.levels.nL s

/-- SETUP_PHASE's values in force, and the restart of the PRU (R18, R25). -/
def putPhase (v : PhaseValues) (s : State) : State :=
  restartPhase (withSetup { s.store.setup with phase := v } s)

/-- SETUP_ANGLES' values in force (R141). -/
def putAngles (role : Role) (v : AngleValues) (s : State) : State :=
  withSetup { s.store.setup with role := role, angles := v } s

/-- SETUP_GUARD's values in force, with the margin while stale and the re-sort (R141, R38, R103). -/
def putGuard (v : GuardValues) (nesting : Nesting) (s : State) : State :=
  resortOnNesting s.store.setup.nesting
    (followBoost (withSetup { s.store.setup with guard := v, nesting := nesting } s))

/-- SETUP_LEVELS' values in force (R141, R91). -/
def putLevels (v : LevelValues) (s : State) : State :=
  formOnChange s.store.setup.levels.nL (withSetup { s.store.setup with levels := v } s)

/-- Every default in force, with the effects of each that differs from the value before (R138, R141, R19). -/
def loadDefaults (s : State) : State :=
  let before := s.store.setup
  let s := withSetup defaultSetup s
  let s := if before.phase.fNom = Config.defaultPhase.fNom then s else restartPhase s
  formOnChange before.levels.nL (resortOnNesting before.nesting (followBoost s))

/-! ## The setup sequence (R138, R139, R142, R143) -/

/-- A setup record refused: for STATE it abandons an open sequence, for SEQUENCE and RANGE it does not (R143). -/
def refuseRecord (k : RequestKind) (tag : Nat) (code : Completion) (s : State) : State :=
  refuse k tag code (if code = .state then closeSequence s else s)

/-- SETUP_BEGIN's checks (R138). -/
def beginRefusal (s : State) : Option Completion :=
  if s.ctl.state = .unconfigured ∨ (s.ctl.state = .blocked ∧ s.prot.inAction = []) then
    if s.store.step = 0 then none else some .sequence
  else some .state

/-- The checks of the record of a step (R139). -/
def recordRefusal (step : Nat) (inRange : Bool) (s : State) : Option Completion :=
  if isAtRest s.ctl.state then
    if s.store.step = step then
      if inRange then none else some .range
    else some .sequence
  else some .state

/-- A setup record: refused, or answered DONE, its values put in force and the step raised (R139). -/
def takeRecord (k : RequestKind) (tag : Nat) (refusal : Option Completion) (put : State → State) (s : State) : State :=
  match refusal with
  | some code => refuseRecord k tag code s
  | none => withStep (s.store.step + 1) (put (accept k tag s))

/-- An accepted SETUP_BEGIN: the defaults, the change from BLOCKED to UNCONFIGURED with its notice, step 1 (R138, R134). -/
def beginSetup (s : State) : State :=
  let s := loadDefaults s
  let s := if s.ctl.state = .blocked then changeState .unconfigured .setupBegin none s else s
  withStep 1 s

/-- An accepted SETUP_END: step 0, and the change from UNCONFIGURED to BLOCKED with its notice (R142, R134). -/
def endSetup (s : State) : State :=
  let s := withStep 0 s
  if s.ctl.state = .unconfigured then changeState .blocked .setupEnd none s else s

/-- SETUP_BEGIN (R138). -/
def takeSetupBegin (tag : Nat) (s : State) : State :=
  match beginRefusal s with
  | some code => refuseRecord .setupBegin tag code s
  | none => beginSetup (accept .setupBegin tag s)

/-- SETUP_PHASE (R139, R18). -/
def takeSetupPhase (tag : Nat) (v : PhaseValues) (s : State) : State :=
  takeRecord .setupPhase tag (recordRefusal 1 (phaseInRange v) s) (putPhase v) s

/-- SETUP_ANGLES (R139); a role code that is none of the listed values is out of range (R140). -/
def takeSetupAngles (tag : Nat) (role : Option Role) (v : AngleValues) (s : State) : State :=
  takeRecord .setupAngles tag (recordRefusal 2 (role.isSome && anglesInRange v) s)
    (putAngles (role.getD .rectifier) v) s

/-- SETUP_GUARD (R139); a nesting code that is none of the listed values is out of range (R140). -/
def takeSetupGuard (tag : Nat) (v : GuardValues) (nesting : Option Nesting) (s : State) : State :=
  takeRecord .setupGuard tag (recordRefusal 3 (nesting.isSome && guardInRange v) s)
    (putGuard v (nesting.getD .nested)) s

/-- SETUP_LEVELS (R139). -/
def takeSetupLevels (tag : Nat) (v : LevelValues) (s : State) : State :=
  takeRecord .setupLevels tag (recordRefusal 4 (levelsInRange v) s) (putLevels v) s

/-- SETUP_END (R142). -/
def takeSetupEnd (tag : Nat) (s : State) : State :=
  match recordRefusal 5 true s with
  | some code => refuseRecord .setupEnd tag code s
  | none => endSetup (accept .setupEnd tag s)

/-! ## Tables (R144 to R149) -/

/-- A row written and marked, and the generation raised (R144, R148). -/
def writeRow (row : Nat) (entries : Vector Nat 8) (st : Store) : Store :=
  { st with table := st.table.setIfInBounds row ⟨true, entries⟩, tableGen := nextGeneration st.tableGen }

/-- TABLE_WRITE (R144). -/
def takeTableWrite (tag row : Nat) (entries : Vector Nat 8) (s : State) : State :=
  if !isAtRest s.ctl.state then refuse .tableWrite tag .state s
  else if 32 < row || entries.toList.any fun e => decide (9000 < e) then refuse .tableWrite tag .range s
  else
    let st := writeRow row entries s.store
    reply .tableWrite tag .done (.tableWritten st.tableGen (rowsWritten st) (tableComplete st)) { s with store := st }

/-- The contents of a TABLE_READ reply; none when the selector or the row is out of range (R149). -/
def tableContent (sel : Option Selector) (st : Store) : Option Content :=
  match sel with
  | some (.row n) =>
    match st.table[n]? with
    | some r => some (.tableRow n r st.tableGen (rowsWritten st) (tableComplete st))
    | none => none
  | some .map => some (.valveMap st.yMap st.dMap st.mapGen st.mapLock)
  | some .setup => some (.setupValues st.setup st.step)
  | none => none

/-- TABLE_READ (R149). -/
def takeTableRead (tag : Nat) (sel : Option Selector) (s : State) : State :=
  match tableContent sel s.store with
  | some c => reply .tableRead tag .done c s
  | none => refuse .tableRead tag .range s

/-- The whole map replaced, and the generation raised (R145, R148). -/
def writeMap (y d : Vector Nat 6) (st : Store) : Store :=
  { st with yMap := y.map valveOfNumber, dMap := d.map valveOfNumber, mapGen := nextGeneration st.mapGen }

/-- MAP_WRITE (R145, R146). -/
def takeMapWrite (tag : Nat) (y d : Vector Nat 6) (s : State) : State :=
  if !isAtRest s.ctl.state then refuse .mapWrite tag .state s
  else if s.store.mapLock then refuse .mapWrite tag .locked s
  else if !mapInRange y d then refuse .mapWrite tag .range s
  else
    let st := writeMap y d s.store
    reply .mapWrite tag .done (.mapWritten st.mapGen) { s with store := st }

/-- MAP_LOCK (R146). -/
def takeMapLock (tag : Nat) (s : State) : State :=
  if !isAtRest s.ctl.state then refuse .mapLock tag .state s
  else accept .mapLock tag { s with store := { s.store with mapLock := true } }

/-! ## Meanings -/

/-- SETUP_BEGIN (R138). -/
def execSetupBegin (s : State) : Host.Outcome State Fault Refusal :=
  .next (serve .setupBegin (fun tag _ s => takeSetupBegin tag s) s)

/-- SETUP_PHASE (R139). -/
def execSetupPhase (s : State) : Host.Outcome State Fault Refusal :=
  .next (serve .setupPhase (fun tag r s => match r with | .setupPhase v => takeSetupPhase tag v s | _ => s) s)

/-- SETUP_ANGLES (R139). -/
def execSetupAngles (s : State) : Host.Outcome State Fault Refusal :=
  .next (serve .setupAngles
    (fun tag r s => match r with | .setupAngles role v => takeSetupAngles tag role v s | _ => s) s)

/-- SETUP_GUARD (R139). -/
def execSetupGuard (s : State) : Host.Outcome State Fault Refusal :=
  .next (serve .setupGuard
    (fun tag r s => match r with | .setupGuard v nesting => takeSetupGuard tag v nesting s | _ => s) s)

/-- SETUP_LEVELS (R139). -/
def execSetupLevels (s : State) : Host.Outcome State Fault Refusal :=
  .next (serve .setupLevels (fun tag r s => match r with | .setupLevels v => takeSetupLevels tag v s | _ => s) s)

/-- SETUP_END (R142). -/
def execSetupEnd (s : State) : Host.Outcome State Fault Refusal :=
  .next (serve .setupEnd (fun tag _ s => takeSetupEnd tag s) s)

/-- TABLE_WRITE (R144). -/
def execTableWrite (s : State) : Host.Outcome State Fault Refusal :=
  .next (serve .tableWrite
    (fun tag r s => match r with | .tableWrite row entries => takeTableWrite tag row entries s | _ => s) s)

/-- TABLE_READ (R149). -/
def execTableRead (s : State) : Host.Outcome State Fault Refusal :=
  .next (serve .tableRead (fun tag r s => match r with | .tableRead sel => takeTableRead tag sel s | _ => s) s)

/-- MAP_WRITE (R145). -/
def execMapWrite (s : State) : Host.Outcome State Fault Refusal :=
  .next (serve .mapWrite (fun tag r s => match r with | .mapWrite y d => takeMapWrite tag y d s | _ => s) s)

/-- MAP_LOCK (R146). -/
def execMapLock (s : State) : Host.Outcome State Fault Refusal :=
  .next (serve .mapLock (fun tag _ s => takeMapLock tag s) s)

end Sys2Proof.Machine
end

