-- ==== Sys2Proof/Machine/TimerCommands.lean ====
section
/-! DEFINITION. The calendar's firing, the generators' expiries, and the controller's timers (R49, R64, R65, R122, R128). -/

namespace Sys2Proof.Machine

/-- FIRING of the first entry at its due time (R49, R50). -/
def execFiring (s : State) : Host.Outcome State Fault Refusal :=
  .next (onExpiry (nextDue s.cal) (fun s => settle (endTestRun (fireFirst s))) s)

/-- A repeat pulse at the expired time `t` (R64, R62). -/
def repeatValve (v : Valve) (t : Nat) (s : State) : State :=
  emitPulse v ⟨.repeated, t, none⟩ (setGenerator v (repeatPulseAt s.store.setup.angles t s.gens[v]) s)

/-- REPEAT_EXPIRY (R64). -/
def execRepeatExpiry (v : Valve) (s : State) : Host.Outcome State Fault Refusal :=
  .next (onExpiry s.gens[v].repeatAt (repeatValve v ((s.gens[v].repeatAt).getD s.now)) s)

/-- TRAIN_END: the generator enters OFF (R65). -/
def execTrainEnd (v : Valve) (s : State) : Host.Outcome State Fault Refusal :=
  .next (onExpiry s.gens[v].trainEnd (setGenerator v generatorOff) s)

/-- The lowest-numbered valve that is not in the ready set (R122). -/
def firstNotReady (s : State) : Option Valve := allValves.find? fun v => !s.ctl.ready[v]

/-- The precheck timer expires: in PRECHECK the deblock has failed (R122). -/
def precheckTimeout (s : State) : State :=
  if s.ctl.state = .precheck then enterBlocked .timeout (firstNotReady s) s
  else { s with ctl := { s.ctl with precheckTimer := none } }

/-- PRECHECK_TIMER_EXPIRY (R122). -/
def execPrecheckTimerExpiry (s : State) : Host.Outcome State Fault Refusal :=
  .next (onExpiry s.ctl.precheckTimer (fun s => settle (precheckTimeout s)) s)

/-- The retard timer expires: in RETARD the converter is blocked (R128). -/
def retardTimeout (s : State) : State :=
  if s.ctl.state = .retard then enterBlocked .retardEnd none s
  else { s with ctl := { s.ctl with retardTimer := none } }

/-- RETARD_TIMER_EXPIRY (R128). -/
def execRetardTimerExpiry (s : State) : Host.Outcome State Fault Refusal :=
  .next (onExpiry s.ctl.retardTimer (fun s => settle (retardTimeout s)) s)

end Sys2Proof.Machine
end

