-- ==== Sys2Proof/Machine/Dispatch.lean ====
section
/-! DEFINITION. The meaning of every command: one arm per row of spec/opcode_table.json, each a call of its own definition. -/

namespace Sys2Proof.Machine

/-- The effect of a command on everything but the queue of commands. -/
def exec (i : Instr) (s : State) : Host.Outcome State Fault Refusal :=
  match i with
  | .powerOn => Sys2Proof.Machine.execPowerOn s
  | .controlFrame f => Sys2Proof.Machine.execControlFrame f s
  | .byteGapTimeout line => Sys2Proof.Machine.execByteGapTimeout line s
  | .recordSent n => Sys2Proof.Machine.execRecordSent n s
  | .unknownRequest => Sys2Proof.Machine.execUnknownRequest s
  | .setupBegin => Sys2Proof.Machine.execSetupBegin s
  | .setupPhase => Sys2Proof.Machine.execSetupPhase s
  | .setupAngles => Sys2Proof.Machine.execSetupAngles s
  | .setupGuard => Sys2Proof.Machine.execSetupGuard s
  | .setupLevels => Sys2Proof.Machine.execSetupLevels s
  | .setupEnd => Sys2Proof.Machine.execSetupEnd s
  | .tableWrite => Sys2Proof.Machine.execTableWrite s
  | .tableRead => Sys2Proof.Machine.execTableRead s
  | .mapWrite => Sys2Proof.Machine.execMapWrite s
  | .mapLock => Sys2Proof.Machine.execMapLock s
  | .deblock => Sys2Proof.Machine.execDeblock s
  | .block => Sys2Proof.Machine.execBlock s
  | .bypass => Sys2Proof.Machine.execBypass s
  | .testStart => Sys2Proof.Machine.execTestStart s
  | .testSuspend => Sys2Proof.Machine.execTestSuspend s
  | .testResume => Sys2Proof.Machine.execTestResume s
  | .angleOrder => Sys2Proof.Machine.execAngleOrder s
  | .phaseRestart => Sys2Proof.Machine.execPhaseRestart s
  | .restart => Sys2Proof.Machine.execRestart s
  | .protMask => Sys2Proof.Machine.execProtMask s
  | .protEnd => Sys2Proof.Machine.execProtEnd s
  | .protEndTop => Sys2Proof.Machine.execProtEndTop s
  | .protStatus => Sys2Proof.Machine.execProtStatus s
  | .levelLatch => Sys2Proof.Machine.execLevelLatch s
  | .levelRead => Sys2Proof.Machine.execLevelRead s
  | .levelFind => Sys2Proof.Machine.execLevelFind s
  | .levelRelease => Sys2Proof.Machine.execLevelRelease s
  | .levelClear => Sys2Proof.Machine.execLevelClear s
  | .levelExclude => Sys2Proof.Machine.execLevelExclude s
  | .status => Sys2Proof.Machine.execStatus s
  | .historyRead => Sys2Proof.Machine.execHistoryRead s
  | .crossing kind lag => Sys2Proof.Machine.execCrossing kind lag s
  | .armedExpiry => Sys2Proof.Machine.execArmedExpiry s
  | .sample seq id uac => Sys2Proof.Machine.execSample seq id uac s
  | .returnRecord line r => Sys2Proof.Machine.execReturnRecord line r s
  | .reappear line valve => Sys2Proof.Machine.execReappear line valve s
  | .firing => Sys2Proof.Machine.execFiring s
  | .repeatExpiry v => Sys2Proof.Machine.execRepeatExpiry v s
  | .trainEnd v => Sys2Proof.Machine.execTrainEnd v s
  | .cfpHoldExpiry => Sys2Proof.Machine.execCfpHoldExpiry s
  | .actionTimerExpiry src => Sys2Proof.Machine.execActionTimerExpiry src s
  | .runWindowExpiry => Sys2Proof.Machine.execRunWindowExpiry s
  | .precheckTimerExpiry => Sys2Proof.Machine.execPrecheckTimerExpiry s
  | .retardTimerExpiry => Sys2Proof.Machine.execRetardTimerExpiry s
  | .staleTimerExpiry => Sys2Proof.Machine.execStaleTimerExpiry s
  | .linkTimerExpiry => Sys2Proof.Machine.execLinkTimerExpiry s
  | .orderTimerExpiry => Sys2Proof.Machine.execOrderTimerExpiry s
  | .discardedFrame line bytes => Sys2Proof.Machine.execDiscardedFrame line bytes s

end Sys2Proof.Machine
end

