-- ==== Sys2Proof/Machine/Idle.lean ====
section
/-! DEFINITION. What the part does when no command waits: it takes an event of its own that is due, or lets one tick pass
(log 1, log 3). -/

namespace Sys2Proof.Machine

/-- The row of a request kind. -/
def rowOfKind : RequestKind → Instr
  | .setupBegin => .setupBegin
  | .setupPhase => .setupPhase
  | .setupAngles => .setupAngles
  | .setupGuard => .setupGuard
  | .setupLevels => .setupLevels
  | .setupEnd => .setupEnd
  | .tableWrite => .tableWrite
  | .tableRead => .tableRead
  | .mapWrite => .mapWrite
  | .mapLock => .mapLock
  | .deblock => .deblock
  | .block => .block
  | .bypass => .bypass
  | .testStart => .testStart
  | .testSuspend => .testSuspend
  | .testResume => .testResume
  | .angleOrder => .angleOrder
  | .phaseRestart => .phaseRestart
  | .restart => .restart
  | .protMask => .protMask
  | .protEnd => .protEnd
  | .protEndTop => .protEndTop
  | .protStatus => .protStatus
  | .levelLatch => .levelLatch
  | .levelRead => .levelRead
  | .levelFind => .levelFind
  | .levelRelease => .levelRelease
  | .levelClear => .levelClear
  | .levelExclude => .levelExclude
  | .status => .status
  | .historyRead => .historyRead

/-- The row that takes a frame from the head of the queue (R164). -/
def rowOfFrame (f : ControlFrame) : Instr :=
  match f.body with
  | .request r => rowOfKind (requestKind r)
  | .badLength k => rowOfKind k
  | .unknownKind _ => .unknownRequest

/-- The rows of the part's own timed events, each with the time for which it is armed; a record being sent stands here with its
own length byte. -/
def timedRows (s : State) : List (Option Nat × Instr) :=
  [(armedExpiry s.pru, .armedExpiry), (nextDue s.cal, .firing)] ++
  allValves.map (fun v => (s.gens[v].repeatAt, .repeatExpiry v)) ++
  allValves.map (fun v => (s.gens[v].trainEnd, .trainEnd v)) ++
  [(s.acu.cfpHold, .cfpHoldExpiry), (s.prot.cfTimer, .actionTimerExpiry .commutationFail),
    (s.prot.refireTimer, .actionTimerExpiry .refireLimit), (s.prot.runWindow, .runWindowExpiry),
    (s.ctl.precheckTimer, .precheckTimerExpiry), (s.ctl.retardTimer, .retardTimerExpiry),
    (s.meas.staleTimer, .staleTimerExpiry), (s.port.linkTimer, .linkTimerExpiry),
    (s.port.orderTimer, .orderTimerExpiry), (sendEnd s.port, .recordSent ((sendingLength s.port).getD 0)),
    (gapExpiry s.receivers.control, .byteGapTimeout .control),
    (gapExpiry s.receivers.measurement, .byteGapTimeout .measurement)] ++
  allValves.map (fun v => (gapExpiry s.receivers.returns[v], .byteGapTimeout (.ret v)))

/-- An armed time has come. -/
def hasCome (now : Nat) (t : Option Nat) : Bool := t.any fun t => decide (t ≤ now)

/-- The event that the part takes of its own accord now: the head request when the port can take it, and otherwise the first
timed row whose time has come (log 3). -/
def dueRow (s : State) : Option Instr :=
  if requestReady s then s.port.requests.head?.map rowOfFrame
  else ((timedRows s).find? fun r => hasCome s.now r.1).map (·.2)

/-- One tick of station time (00_scope.md, Station time). -/
def tick (s : State) : State := { s with now := s.now + 1 }

/-- A step with no command waiting (log 1). -/
def idle (s : State) : Host.Outcome State Fault Refusal :=
  match dueRow s with
  | some c => exec c s
  | none => .next (tick s)

end Sys2Proof.Machine
end

