-- ==== Sys2Proof/WellFormed.lean ====
section
/-! DEFINITION. Which commands can exist: the field widths that the frame layouts and the request rules state (R157, R152,
R159, R144, R119, R129, R160). The meanings do not depend on it; the tests show an ill-formed term for each check. -/

namespace Sys2Proof

/-- A value that one byte carries. -/
def fitsByte (n : Nat) : Bool := n ≤ 255

/-- A value that two bytes carry. -/
def fitsTwoBytes (n : Nat) : Bool := n ≤ 65535

/-- The carried widths that the rules of the requests state: row and entries of TABLE_WRITE (R144), the row number of
TABLE_READ (carried like TABLE_WRITE's), the generations and the count (R119, R129). -/
def requestFits : Request → Bool
  | .tableWrite row entries => fitsByte row && entries.toList.all fitsTwoBytes
  | .tableRead (some (.row n)) => fitsByte n
  | .deblock tableGen mapGen => fitsTwoBytes tableGen && fitsTwoBytes mapGen
  | .testStart _ count tableGen mapGen => fitsTwoBytes count && fitsTwoBytes tableGen && fitsTwoBytes mapGen
  | _ => true

/-- A kind code that is none of the 31 requests' (R164). -/
def unknownKindFits (code : Nat) : Bool := fitsByte code && (code == 0 || decide (31 < code))

/-- The body of a frame of the control link is one that a frame can carry. -/
def bodyFits : FrameBody → Bool
  | .request r => requestFits r
  | .badLength _ => true
  | .unknownKind code => unknownKindFits code

/-- A frame of the control link is one that can arrive (R159). -/
def controlFrameFits (f : ControlFrame) : Bool := fitsByte f.tag && bodyFits f.body

/-- A RETURN record is one that a frame can carry: at most 8 protective levels, each one byte (R159). -/
def returnFits (r : ReturnRecord) : Bool :=
  fitsByte r.valve && fitsTwoBytes r.window && decide (r.protective.length ≤ 8) && r.protective.all fitsByte

/-- The TIMED sources, the only ones with an action timer (R98). -/
def isTimed : Source → Bool
  | .commutationFail => true
  | .refireLimit => true
  | _ => false

/-- The command can exist. -/
def wellFormed : Instr → Bool
  | .controlFrame f => controlFrameFits f
  | .recordSent n => decide (2 ≤ n) && decide (n ≤ 250)
  | .crossing kind lag => fitsByte kind && fitsByte lag
  | .sample seq id uac => fitsByte seq && decide (-32768 ≤ id) && decide (id ≤ 32767) && fitsTwoBytes uac
  | .returnRecord _ r => returnFits r
  | .reappear _ valve => fitsByte valve
  | .actionTimerExpiry src => isTimed src
  | .discardedFrame _ bytes => !bytes.isEmpty
  | _ => true

end Sys2Proof
end

