-- ==== Sys2Proof/Safety.lean ====
section
/-! DEFINITION. The terms of the claims: what a taken request leaves, when the resolver has nothing left to do, and the
standing states of the part that the rules promise. -/

namespace Sys2Proof.Machine

/-! ## Requests and their replies -/

/-- The request `r` with its tag stands at the head of the queue, and the outgoing list holds 16 records or fewer (R164). -/
def TakesRequest (s : State) (tag : Nat) (r : Request) : Prop :=
  s.port.requests.head? = some ⟨tag, .request r⟩ ∧ s.port.outgoing.length ≤ 16

/-- The state with the setup sequence closed (R143). -/
def abandoned (s : State) : State := { s with store := { s.store with step := 0 } }

/-! ## The resolver at rest -/

/-- Every condition source is in step with its condition: pending or in action while it holds, and otherwise neither pending
nor, for a CLEARED source, in action (R101). -/
def InStep (s : State) : Prop :=
  ∀ src, isEdgeSource src = false →
    (conditionHolds s src = true → isPending s src = true ∨ isInAction s src = true) ∧
    (conditionHolds s src = false →
      isPending s src = false ∧ (isClearedSource src = true → isInAction s src = false))

/-- The resolver has nothing left to do: the conditions are in step and a pass would grant nothing (R101, R102). -/
def Settled (s : State) : Prop := InStep s ∧ nextGrant s = none

/-- No source is both pending and in action, and none is in action twice (R99). -/
def Placed (s : State) : Prop :=
  (∀ src, ¬(isPending s src = true ∧ isInAction s src = true)) ∧ (s.prot.inAction.map (·.source)).Nodup

/-- In NESTED mode the sources in action have strictly rising priority in grant order (R103). -/
def Rising (s : State) : Prop :=
  s.store.setup.nesting = .nested →
    (s.prot.inAction.map fun a => sourceNumber a.source).Pairwise fun a b => b < a

/-- The trip line is asserted while, and only while, VALVE_TRIP is in action (R106). -/
def TripFollows (s : State) : Prop := s.prot.tripLine = isInAction s .valveTrip

/-- What holds of the resolver between any two events (R99, R101, R102, R103, R106). -/
def ResolverInv (s : State) : Prop := Settled s ∧ Placed s ∧ Rising s ∧ TripFollows s

/-- `t` differs from `s` at most in the resolver and in what the port has yet to send. -/
def SameButResolver (s t : State) : Prop :=
  { t with
    prot := s.prot
    port := { t.port with
      outgoing := s.port.outgoing
      sendStart := s.port.sendStart
      noticeLost := s.port.noticeLost } } = s

/-- The converter stands where no stop demand moves it (R127). -/
def Unmoved (c : ConvState) : Prop := c = .bypass ∨ c = .retard ∨ c = .blocked ∨ c = .unconfigured

/-- No stop source is pending, and neither PHASE_LOST nor LINK_LOST has its condition: no grant of this state is a stop
demand (R104). -/
def Calm (s : State) : Prop :=
  isPending s .valveTrip = false ∧ isPending s .phaseLost = false ∧ isPending s .linkLost = false ∧
    conditionHolds s .phaseLost = false ∧ conditionHolds s .linkLost = false

/-- The grants that close an event leave the converter where it is. -/
def Quiet (s : State) : Prop := Calm s ∨ Unmoved s.ctl.state

/-- The command answers a next state, which is `u` but for the resolver and what the port has yet to send. -/
def Completes (c : Instr) (s u : State) : Prop := ∃ t, exec c s = .next t ∧ SameButResolver u t

/-- The command answers a next state, which is `u` but for the resolver and what the port has yet to send, with `recs` the first
records that its event has placed on the outgoing list. -/
def CompletesSending (c : Instr) (s : State) (recs : List OutRecord) (u : State) : Prop :=
  ∃ t, exec c s = .next t ∧ SameButResolver u t ∧ (s.port.outgoing ++ recs) <+: t.port.outgoing

/-- The command completes as `u`, with `rec` the first record that its event has placed on the outgoing list. -/
def CompletesReplying (c : Instr) (s : State) (rec : OutRecord) (u : State) : Prop := CompletesSending c s [rec] u

/-- The command answers a next state, which is `u` but for the outgoing list, where `rec` stands as its one new record, and the
time at which the line begins to send (log 8). -/
def Answers (c : Instr) (s : State) (rec : OutRecord) (u : State) : Prop :=
  ∃ t, exec c s = .next t ∧ t.port.outgoing = s.port.outgoing ++ [rec] ∧
    { t with port := { t.port with outgoing := u.port.outgoing, sendStart := u.port.sendStart } } = u

/-- The state with the head frame out of the request queue (R164). -/
def popped (s : State) : State := { s with port := { s.port with requests := s.port.requests.tail } }

/-- The step of the setup sequence at which a record is taken (R139). -/
def recordStep : RequestKind → Nat
  | .setupPhase => 1
  | .setupAngles => 2
  | .setupGuard => 3
  | .setupLevels => 4
  | .setupEnd => 5
  | _ => 0

/-! ## Stop demands -/

/-- The converter state to which a stop demand leads, and the notices of the change in their order (R127, R128). -/
def stopChange (s : State) (src : Source) (time : Nat) : ConvState × List OutRecord :=
  let moves := fun c : ConvState => (c, [OutRecord.noticeState s.ctl.state c (.source src) none time])
  match s.ctl.state with
  | .running =>
    match s.store.setup.role with
    | .inverter => moves .bypass
    | .rectifier =>
      if s.store.setup.guard.retardTime = 0 then
        (.blocked, [.noticeState .running .retard (.source src) none time,
          .noticeState .retard .blocked .retardEnd none time])
      else moves .retard
  | .precheck => moves .blocked
  | .testing => moves .blocked
  | .testHeld => moves .blocked
  | c => (c, [])

/-- The stop source was granted at `time` in an event from `s` to `t`, and its demand was acted on: its notices go out first, a
RETARD has its timer, and a fall to BLOCKED leaves the calendar empty and the generators OFF (R104, R113, R117, R125, R127,
R128). -/
def StopTaken (s t : State) (src : Source) (time : Nat) : Prop :=
  isInAction t src = true ∧ t.ctl.state = (stopChange s src time).1 ∧
    (s.port.outgoing.length ≤ 29 →
      (s.port.outgoing ++ .noticeGrant src (sourceAction src) time :: (stopChange s src time).2) <+: t.port.outgoing) ∧
    (s.ctl.state = .running → t.ctl.state = .retard →
      t.ctl.retardTimer = some (time + s.store.setup.guard.retardTime * 10000)) ∧
    (isGuarded s.ctl.state = true → t.ctl.state = .blocked →
      t.cal.orders = [] ∧ (∀ v : Valve, t.gens[v] = generatorOff) ∧ t.acu.testAngle = none ∧
        t.ctl.precheckTimer = none ∧ t.ctl.retardTimer = none ∧ t.ctl.ready = Vector.replicate 12 false)

/-! ## Reference points -/

/-- What taking an order at station time `now` makes of the calendar: the order that stands for its valve is fired as LATE, then
the new one when its due time is not later than `now`; otherwise it is entered (R45, R46, R47, R55, R56). -/
def OrderTaken (now : Nat) (o : Order) (c d : Calendar) : Prop :=
  let stands := fun x : Order => decide (x.valve = o.valve) && decide (x.kind ≠ .bypass)
  let fired := c.orders.filter stands ++ if o.due ≤ now then [o] else []
  let records := fired.mapIdx fun i x => (⟨c.fired + i + 1, x.valve, x.kind, x.rn, x.due, now, x.angle, x.mu,
    { x.flags with late := true }⟩ : FiringRecord)
  d.created = c.created + 1 ∧ d.discarded = c.discarded ∧ d.fired = c.fired + fired.length ∧
    d.ring = (if fired = [] then c.ring else (records.reverse ++ c.ring).take 64) ∧
    d.orders.Perm ((c.orders.filter fun x => !stands x) ++ if o.due ≤ now then [] else [o])

/-- The ACU's work at a usable point of kind `k`, number `rn`, reference time and period, taken at station time `now` in an event
from `s` to `t`: a pending order past its apply point becomes active (R24), the CFP margin decays (R37), and in a firing state
the applied angle becomes a_prev (R33) and the Y order and then the D order are made (R34, R35) and taken (R45). -/
def PointWorked (s t : State) (now k rn time period : Nat) : Prop :=
  let v := s.store.setup
  let applies := s.acu.waiting.any fun w => decide (w.applyPoint ≤ rn)
  let acu : Acu := { s.acu with
    active := if applies then s.acu.waiting.map (·.angle) else s.acu.active
    waiting := if applies then none else s.acu.waiting
    cfpMargin := if s.acu.cfpHold = none ∧ s.meas.stale = false then s.acu.cfpMargin - v.guard.cfpDecay
      else s.acu.cfpMargin }
  (isFiring s.ctl.state = false → t.acu = acu ∧ t.cal = s.cal) ∧
  (isFiring s.ctl.state = true →
    let a := appliedAngle { s with acu := acu }
    let mu := if v.role = .inverter then
        some (if s.ctl.state = .running then overlap s.store s.meas.heldId s.meas.heldUac else 0)
      else none
    let order := fun (valve : Valve) (x : Nat) => (⟨valve, if s.ctl.state = .testing then .test else .normal,
      time + (x * period + 18000) / 36000, some a.value, mu, some rn, a.flags⟩ : Order)
    t.acu = { acu with aPrev := a.value } ∧
    ∀ y d : Valve, s.store.yMap[k]? = some y → s.store.dMap[k]? = some d →
      ∃ m, OrderTaken now (order y a.value) s.cal m ∧
        OrderTaken now (order d (a.value + 3000 + v.angles.dtrim).toNat) m t.cal)

/-- No FIXED test run ends at the firings that one reference point can make at once: two orders, each after the one that stands
for its valve (R46, R47, R130). -/
def RunGoesOn (s : State) : Prop :=
  s.ctl.state = .testing → s.ctl.testMode = .continuous ∨ 5 ≤ s.ctl.remaining

/-! ## Standing states of the blocks -/

/-- CREATED = FIRED + DISCARDED + the orders in the calendar (R54). -/
def AccountInv (s : State) : Prop := s.cal.created = s.cal.fired + s.cal.discarded + s.cal.orders.length

/-- The kind of order that may stand in the list in a converter state (R60). -/
def standingKind : ConvState → Option OrderKind
  | .running => some .normal
  | .retard => some .normal
  | .testing => some .test
  | _ => none

/-- Only orders of the state's kind stand in the list (R60), and at most one for each valve (R44). -/
def CalendarInv (s : State) : Prop :=
  (∀ o ∈ s.cal.orders, standingKind s.ctl.state = some o.kind) ∧ (s.cal.orders.map (·.valve)).Nodup

/-- Neither of two entries that stand in this order comes the other way round (R43). -/
def SortedInv (s : State) : Prop := s.cal.orders.Pairwise fun a b => comesBefore s.store b a = false

/-- A state in which every generator is OFF (R71). -/
def isDark : ConvState → Bool
  | .unconfigured => true
  | .blocked => true
  | .precheck => true
  | .testHeld => true
  | _ => false

/-- Every generator is OFF in UNCONFIGURED, BLOCKED, PRECHECK and TEST_HELD (R71). -/
def DarkInv (s : State) : Prop := isDark s.ctl.state = true → ∀ v : Valve, s.gens[v] = generatorOff

/-- The remaining count lies between 1 and the programmed count in TESTING and TEST_HELD (R130). -/
def TestCountInv (s : State) : Prop :=
  s.ctl.state = .testing ∨ s.ctl.state = .testHeld → 1 ≤ s.ctl.remaining ∧ s.ctl.remaining ≤ s.ctl.programmed

/-- P lies in its limits, k in 0..5, the distorted count in 16 bits, and UNLOCKED holds no prediction, kind or count (R5,
R10, R11, R12). -/
def PhaseInv (s : State) : Prop :=
  pMin s.store.setup.phase.fNom ≤ s.pru.p ∧ s.pru.p ≤ pMax s.store.setup.phase.fNom ∧ s.pru.k < 6 ∧
    s.pru.distorted ≤ 65535 ∧ (s.pru.lock = .unlocked ↔ s.pru.pred = none) ∧
    (s.pru.lock = .unlocked → s.pru.k = 0 ∧ s.pru.good = 0 ∧ s.pru.flywheel = 0 ∧ s.pru.holdover = 0)

/-- The queues and the ring within their capacities (R163, R166, R56). -/
def QueueInv (s : State) : Prop :=
  s.port.requests.length ≤ 8 ∧ s.port.outgoing.length ≤ 32 ∧ s.cal.ring.length ≤ 64

/-- The setup values in force lie in their ranges, the step in 0..5, the Level Table has N_L levels for each valve, the entries of
the Commutation Table lie in 0..9,000, and the Valve Map names each valve of a bridge once (R140, R139, R91, R144, R145). -/
def StoreInv (s : State) : Prop :=
  setupInRange s.store.setup = true ∧ s.store.step ≤ 5 ∧
    (∀ v : Valve, s.monitors[v].levels.length = s.store.setup.levels.nL) ∧
    (∀ row ∈ s.store.table.toList, ∀ e ∈ row.entries.toList, e ≤ 9000) ∧
    (s.store.yMap.toList.map valveNumber).Perm [1, 2, 3, 4, 5, 6] ∧
    (s.store.dMap.toList.map valveNumber).Perm [7, 8, 9, 10, 11, 12]

end Sys2Proof.Machine
end

