-- ==== Sys2Proof/Certificates/Slice0/Obligations.lean ====
section
/-! DEFINITION. The statements about the part, in the order of OBLIGATIONS.json. A statement quantifies over every state that
meets its hypotheses, reached by a run or not. -/

open Sys2Proof Sys2Proof.Machine

/-! ## Steps and resets -/

/-- A step takes the command at the front of the queue and runs it on the state with the rest of the queue, which is the model's
own (log 11). -/
def Obligations.StepRunsFrontCommand : Prop :=
  ∀ (c : Instr) (rest : List Instr) (s : State), s.pending = c :: rest → step s = exec c { s with pending := rest }

/-- With no command waiting the part takes the request that its port can take (R164), and lets one tick pass when it has no
event of its own to take (the model's choice, log 1 and log 3). -/
def Obligations.IdleStepTakesOrTicks : Prop :=
  ∀ s : State, s.pending = [] →
    (∀ (tag : Nat) (r : Request), TakesRequest s tag r → step s = exec (rowOfKind (requestKind r)) s) ∧
    (s.port.requests = [] ∨ 16 < s.port.outgoing.length → (∀ t ∈ armedTimes s, s.now < t) →
      step s = .next { s with now := s.now + 1 })

/-- POWER_ON brings every block to the power-on column of its reset table (R20, R40, R58, R74, R96, R116, R136, R150, R158,
R171). The commands waiting outside are kept, every receiver hunts, and no frame counts as sent (the model's choice, log 8,
log 9 and log 11). -/
def Obligations.PowerOnResetsEveryBlock : Prop :=
  ∀ s : State, ∃ t, exec .powerOn s = .next t ∧ t.pending = s.pending ∧ t.now = 0 ∧
    t.pru = ⟨.unlocked, 200000, 0, 0, 0, none, 0, 0, 0, 0⟩ ∧
    t.acu = ⟨none, none, 9000, none, 0, none⟩ ∧
    t.cal = ⟨[], 0, 0, 0, []⟩ ∧
    (∀ v : Valve, t.gens[v] = ⟨.off, none, none, 0, none⟩ ∧ t.emitters[v].probeUntil = none ∧
      t.monitors[v] = ⟨List.replicate 96 ⟨.unknown, 0, 0, 0, none⟩, 0, false, 0, false, false⟩) ∧
    t.snapshot = none ∧
    t.prot = ⟨noSources, [], noSources, noSources, none, none, 0, none, false⟩ ∧
    t.ctl = ⟨.unconfigured, none, Vector.replicate 12 false, none, none, none, .fixed, 1, 0, 0, false⟩ ∧
    t.store.setup = defaultSetup ∧ t.store.step = 0 ∧ t.store.tableGen = 0 ∧ t.store.mapGen = 1 ∧
    t.store.mapLock = false ∧
    (∀ (i : Nat) (h : i < 33), t.store.table[i] = ⟨false, Vector.replicate 8 0⟩) ∧
    (∀ (k : Nat) (h : k < 6), valveNumber t.store.yMap[k] = k + 1 ∧ valveNumber t.store.dMap[k] = k + 7) ∧
    t.meas = ⟨0, 1000, none, some 20000, false⟩ ∧
    t.port = ⟨[], [], none, false, some 200000, false, some 100000, none⟩ ∧
    ∀ line : Line, lineReceiver t.receivers line = .hunting

/-- An accepted RESTART brings each block but the resolver to the RESTART column of its reset table and keeps the rest (R20, R40,
R58, R74, R96, R135, R136, R150, R158); of the resolver, the trip line is released, the masks are empty and the CF run and its
window are cleared (R116); the notice-lost flag is clear (R171). Away from rest it is refused with STATE and changes nothing
(R135, R118). -/
def Obligations.RestartResetsAtRest : Prop :=
  ∀ (s : State) (tag : Nat), TakesRequest s tag .restart →
    (isAtRest s.ctl.state = false → Quiet s →
      CompletesReplying .restart s (.reply .restart tag .state .empty) (abandoned (popped s))) ∧
    (isAtRest s.ctl.state = true → ∃ t, exec .restart s = .next t ∧
      SameButResolver
        { popped s with
          pru := ⟨.unlocked, pNom s.store.setup.phase.fNom, 0, 0, 0, none, 0, 0, 0, 0⟩
          acu := ⟨none, none, s.store.setup.angles.alphaStart, none,
            if s.meas.stale then s.store.setup.guard.cfpBoost else 0, none⟩
          cal := ⟨[], 0, 0, 0, []⟩
          gens := Vector.replicate 12 generatorOff
          monitors := s.monitors.map fun m =>
            { m with window := 0, accepted := false, missingRun := 0, lost := false, armed := false }
          snapshot := none
          ctl := ⟨s.ctl.state, none, Vector.replicate 12 false, none, none, none, .fixed, 1, 0, 0, false⟩
          store := { s.store with step := 0 } } t ∧
      (s.port.outgoing ++ [.reply .restart tag .done .empty]) <+: t.port.outgoing ∧
      t.prot.tripLine = false ∧ t.prot.masks = noSources ∧ t.prot.cfRun = 0 ∧ t.prot.runWindow = none ∧
      t.port.noticeLost = false)

/-! ## Table Store -/

/-- An accepted SETUP_BEGIN loads every default, takes the converter to UNCONFIGURED and opens the sequence at step 1 (R138);
the PRU restarts only when f_nom changes (R19), the Level Table is formed anew only when N_L changes (R91), and the margin
follows cfp_boost while the measurement is stale (R38). A change from BLOCKED sends its NOTICE_STATE after the reply (R134, R117).
The L of the rebased apply point is the default (log 17). -/
def Obligations.SetupBeginLoadsDefaults : Prop :=
  ∀ (s : State) (tag : Nat), TakesRequest s tag .setupBegin → s.store.step = 0 →
    s.ctl.state = .unconfigured ∨ (s.ctl.state = .blocked ∧ s.prot.inAction = []) →
    CompletesSending .setupBegin s
      (.reply .setupBegin tag .done .empty ::
        if s.ctl.state = .blocked then [.noticeState .blocked .unconfigured .setupBegin none s.now] else [])
      { popped s with
        pru := if s.store.setup.phase.fNom = 50 then s.pru
          else ⟨.unlocked, 200000, 0, 0, 0, none, 0, 0, 0, 0⟩
        acu := { s.acu with
          waiting := if s.store.setup.phase.fNom = 50 then s.acu.waiting
            else s.acu.waiting.map fun w => { w with applyPoint := 1 }
          cfpMargin := if s.meas.stale then 1000 else s.acu.cfpMargin }
        monitors := if s.store.setup.levels.nL = 96 then s.monitors
          else s.monitors.map fun m => { m with levels := List.replicate 96 levelCleared }
        ctl := { s.ctl with state := .unconfigured }
        store := { s.store with setup := defaultSetup, step := 1 } }

/-- An accepted SETUP_PHASE puts its values in force and restarts the PRU at P_nom of the new f_nom, with the apply point of a
pending order rebased (R18, R25); SETUP_ANGLES puts its values in force and nothing else; SETUP_GUARD puts its values in force,
with the margin at the new cfp_boost while the measurement is stale (R38); SETUP_LEVELS puts its values in force and forms the
Level Table anew when N_L changes (R91). Each raises the step (R139, R141). -/
def Obligations.SetupRecordsAccepted : Prop :=
  ∀ (s : State) (tag : Nat), isAtRest s.ctl.state = true →
    (∀ v : PhaseValues, TakesRequest s tag (.setupPhase v) → s.store.step = 1 → phaseInRange v = true →
      CompletesReplying .setupPhase s (.reply .setupPhase tag .done .empty)
        { popped s with
          pru := ⟨.unlocked, if v.fNom = 60 then 166667 else 200000, 0, 0, 0, none, 0, 0, 0, 0⟩
          acu := { s.acu with
            waiting := s.acu.waiting.map fun w => { w with applyPoint := 1 + s.store.setup.angles.latency } }
          store := { s.store with setup := { s.store.setup with phase := v }, step := 2 } }) ∧
    (∀ (role : Role) (v : AngleValues), TakesRequest s tag (.setupAngles (some role) v) → s.store.step = 2 →
      anglesInRange v = true →
      CompletesReplying .setupAngles s (.reply .setupAngles tag .done .empty)
        { popped s with
          store := { s.store with setup := { s.store.setup with role := role, angles := v }, step := 3 } }) ∧
    (∀ (v : GuardValues) (n : Nesting), TakesRequest s tag (.setupGuard v (some n)) → s.store.step = 3 →
      guardInRange v = true →
      CompletesReplying .setupGuard s (.reply .setupGuard tag .done .empty)
        { popped s with
          acu := { s.acu with cfpMargin := if s.meas.stale then v.cfpBoost else s.acu.cfpMargin }
          store := { s.store with setup := { s.store.setup with guard := v, nesting := n }, step := 4 } }) ∧
    (∀ v : LevelValues, TakesRequest s tag (.setupLevels v) → s.store.step = 4 → levelsInRange v = true →
      CompletesReplying .setupLevels s (.reply .setupLevels tag .done .empty)
        { popped s with
          monitors := if v.nL = s.store.setup.levels.nL then s.monitors
            else s.monitors.map fun m => { m with levels := List.replicate v.nL levelCleared }
          store := { s.store with setup := { s.store.setup with levels := v }, step := 5 } })

/-- An accepted SETUP_END closes the sequence and takes the converter to BLOCKED, with its NOTICE_STATE after the reply (R142, R134,
R117). A sequence open in BLOCKED, which no run reaches, ends without a notice (the model's choice, log 6). -/
def Obligations.SetupEndLeadsToBlocked : Prop :=
  ∀ (s : State) (tag : Nat), TakesRequest s tag .setupEnd → isAtRest s.ctl.state = true → s.store.step = 5 →
    CompletesSending .setupEnd s
      (.reply .setupEnd tag .done .empty ::
        if s.ctl.state = .unconfigured then [.noticeState .unconfigured .blocked .setupEnd none s.now] else [])
      { popped s with ctl := { s.ctl with state := .blocked }, store := { s.store with step := 0 } }

/-- Setup records refused: STATE outside UNCONFIGURED and BLOCKED, which abandons an open sequence; SEQUENCE out of turn and
RANGE for a value, which leave it at its step (R137, R138, R139, R143). -/
def Obligations.SetupRecordsRefused : Prop :=
  ∀ (s : State) (tag : Nat) (r : Request), TakesRequest s tag r → isSetupRecord (requestKind r) = true →
    let k := requestKind r
    (isAtRest s.ctl.state = false → Quiet s →
      CompletesReplying (rowOfKind k) s (.reply k tag .state .empty) (abandoned (popped s))) ∧
    (isAtRest s.ctl.state = true →
      (k = .setupBegin → s.ctl.state = .blocked → s.prot.inAction ≠ [] →
        CompletesReplying (rowOfKind k) s (.reply k tag .state .empty) (abandoned (popped s))) ∧
      (k = .setupBegin → s.ctl.state = .unconfigured ∨ s.prot.inAction = [] → s.store.step ≠ 0 →
        CompletesReplying (rowOfKind k) s (.reply k tag .sequence .empty) (popped s)) ∧
      (k ≠ .setupBegin → s.store.step ≠ recordStep k →
        CompletesReplying (rowOfKind k) s (.reply k tag .sequence .empty) (popped s)) ∧
      (s.store.step = recordStep k →
        (∃ v, r = .setupPhase v ∧ phaseInRange v = false) ∨
        (∃ role v, r = .setupAngles role v ∧ (role = none ∨ anglesInRange v = false)) ∨
        (∃ v n, r = .setupGuard v n ∧ (n = none ∨ guardInRange v = false)) ∨
        (∃ v, r = .setupLevels v ∧ levelsInRange v = false) →
        CompletesReplying (rowOfKind k) s (.reply k tag .range .empty) (popped s)))

/-- Accepted table writes: TABLE_WRITE replaces and marks its row and raises the table generation, MAP_WRITE replaces the map
and raises its generation, MAP_LOCK sets the lock; each reply carries what its rule gives (R144, R145, R146, R148). -/
def Obligations.StoreWritesAccepted : Prop :=
  ∀ (s : State) (tag : Nat), isAtRest s.ctl.state = true →
    (∀ (row : Nat) (h : row < 33) (entries : Vector Nat 8), TakesRequest s tag (.tableWrite row entries) →
      (∀ e ∈ entries.toList, e ≤ 9000) →
      let table := s.store.table.set row ⟨true, entries⟩
      let gen := if s.store.tableGen = 65535 then 1 else s.store.tableGen + 1
      CompletesReplying .tableWrite s
        (.reply .tableWrite tag .done
          (.tableWritten gen (table.toList.countP (·.written)) (table.toList.all (·.written))))
        { popped s with store := { s.store with step := 0, table := table, tableGen := gen } }) ∧
    (∀ (y d : Vector Nat 6), TakesRequest s tag (.mapWrite y d) → mapInRange y d = true → s.store.mapLock = false →
      let gen := if s.store.mapGen = 65535 then 1 else s.store.mapGen + 1
      CompletesReplying .mapWrite s (.reply .mapWrite tag .done (.mapWritten gen))
        { popped s with store := { s.store with
            step := 0
            yMap := y.map valveOfNumber
            dMap := d.map valveOfNumber
            mapGen := gen } }) ∧
    (TakesRequest s tag .mapLock →
      CompletesReplying .mapLock s (.reply .mapLock tag .done .empty)
        { popped s with store := { s.store with step := 0, mapLock := true } })

/-- Table writes refused, in their order: STATE away from rest, then LOCKED for a locked map, then RANGE (R137, R144, R145,
R146). -/
def Obligations.StoreWritesRefused : Prop :=
  ∀ (s : State) (tag : Nat),
    (∀ r : Request, TakesRequest s tag r →
      requestKind r = .tableWrite ∨ requestKind r = .mapWrite ∨ requestKind r = .mapLock →
      isAtRest s.ctl.state = false → Quiet s →
      CompletesReplying (rowOfKind (requestKind r)) s (.reply (requestKind r) tag .state .empty)
        (abandoned (popped s))) ∧
    (isAtRest s.ctl.state = true →
      (∀ (row : Nat) (entries : Vector Nat 8), TakesRequest s tag (.tableWrite row entries) →
        32 < row ∨ (∃ e ∈ entries.toList, 9000 < e) →
        CompletesReplying .tableWrite s (.reply .tableWrite tag .range .empty) (abandoned (popped s))) ∧
      (∀ (y d : Vector Nat 6), TakesRequest s tag (.mapWrite y d) →
        (s.store.mapLock = true →
          CompletesReplying .mapWrite s (.reply .mapWrite tag .locked .empty) (abandoned (popped s))) ∧
        (s.store.mapLock = false → mapInRange y d = false →
          CompletesReplying .mapWrite s (.reply .mapWrite tag .range .empty) (abandoned (popped s)))))

/-- TABLE_READ answers the selected row, map or setup values as they stand, RANGE for another selector or a row above 32, and
changes nothing but the queues (R149). -/
def Obligations.TableReadShowsTheStore : Prop :=
  ∀ (s : State) (tag : Nat), Settled s →
    (∀ (n : Nat) (h : n < 33), TakesRequest s tag (.tableRead (some (.row n))) →
      Answers .tableRead s (.reply .tableRead tag .done
        (.tableRow n s.store.table[n] s.store.tableGen (s.store.table.toList.countP (·.written))
          (s.store.table.toList.all (·.written)))) (popped s)) ∧
    (TakesRequest s tag (.tableRead (some .map)) →
      Answers .tableRead s (.reply .tableRead tag .done
        (.valveMap s.store.yMap s.store.dMap s.store.mapGen s.store.mapLock)) (popped s)) ∧
    (TakesRequest s tag (.tableRead (some .setup)) →
      Answers .tableRead s (.reply .tableRead tag .done
        (.setupValues s.store.setup s.store.step)) (popped s)) ∧
    (∀ sel : Option Selector, TakesRequest s tag (.tableRead sel) → sel = none ∨ (∃ n, sel = some (.row n) ∧ 32 < n) →
      Answers .tableRead s (.reply .tableRead tag .range .empty) (popped s))

/-! ## Converter State Controller -/

/-- A DEBLOCK whose checks hold takes the converter from BLOCKED to PRECHECK: timer, empty ready set, windows and flags reset,
a probe pulse on every line, and the NOTICE_STATE after the reply (R119, R72, R96, R117).
The record of the pulse last started on a line is the model's own (log 10). -/
def Obligations.DeblockEntersPrecheck : Prop :=
  ∀ (s : State) (tag tg mg : Nat), TakesRequest s tag (.deblock tg mg) → s.ctl.state = .blocked →
    tg ≤ 65535 → mg ≤ 65535 → tableComplete s.store = true → tg = s.store.tableGen → mg = s.store.mapGen →
    s.pru.lock = .locked → stopInAction s = false → redundancyLost s = false → Calm s → s.port.linkSilent = false →
    CompletesSending .deblock s
      [.reply .deblock tag .done .empty, .noticeState .blocked .precheck .deblock none s.now]
      { popped s with
        ctl := { s.ctl with
          state := .precheck
          precheckTimer := some (s.now + s.store.setup.guard.precheckTimeout * 10000)
          ready := Vector.replicate 12 false }
        monitors := s.monitors.map fun m => { m with window := 0, accepted := false, armed := false }
        emitters := Vector.replicate 12 ⟨some (s.now + 100), some ⟨.probe, s.now, some 0⟩⟩
        store := { s.store with step := 0 } }

/-- A DEBLOCK whose checks hold takes the converter from BYPASS to RUNNING: a_prev at alpha_start, armed flags and marks
cleared, each hold run down as a train without a pulse, and the NOTICE_STATE after the reply (R123, R70, R117). -/
def Obligations.DeblockLeavesBypass : Prop :=
  ∀ (s : State) (tag tg mg : Nat), TakesRequest s tag (.deblock tg mg) → s.ctl.state = .bypass →
    tg ≤ 65535 → mg ≤ 65535 → tableComplete s.store = true → tg = s.store.tableGen → mg = s.store.mapGen →
    s.pru.lock = .locked ∨ s.pru.lock = .holdover → stopInAction s = false → redundancyLost s = false → Calm s →
    let trainEnd := s.now + angleTicks s.pru.p s.store.setup.angles.trainCdeg
    CompletesSending .deblock s
      [.reply .deblock tag .done .empty, .noticeState .bypass .running .deblock none s.now]
      { popped s with
        ctl := { s.ctl with
          state := .running
          precheckTimer := none
          ready := Vector.replicate 12 false
          lastY := none
          lastD := none }
        acu := { s.acu with aPrev := s.store.setup.angles.alphaStart }
        monitors := s.monitors.map fun m => { m with armed := false }
        gens := s.gens.map fun g =>
          if g.mode = .hold then
            ⟨.train, some trainEnd, g.repeatAt.filter fun t => decide (t < trainEnd), 0, g.litUntil⟩
          else g
        store := { s.store with step := 0 } }

/-- DEBLOCK outside BLOCKED and BYPASS and TEST_START outside BLOCKED are refused with STATE, then with RANGE for a value out of
range, and then by the first check that fails: INCOMPLETE, SIGNATURE, PHASE, PROTECTION, and for DEBLOCK alone REDUNDANCY; in
BYPASS the PRU may be in HOLDOVER. A refusal changes nothing but the queues and an open sequence (R118, R119, R123, R129). -/
def Obligations.StartRequestsRefusedInOrder : Prop :=
  ∀ (s : State) (tag : Nat) (r : Request) (tg mg : Nat), TakesRequest s tag r →
    let refusedWith := fun code => CompletesReplying (rowOfKind (requestKind r)) s
      (.reply (requestKind r) tag code .empty) (abandoned (popped s))
    let taken := s.ctl.state = .blocked ∨ (s.ctl.state = .bypass ∧ requestKind r = .deblock)
    let lockOk := s.pru.lock = .locked ∨ (s.ctl.state = .bypass ∧ s.pru.lock = .holdover)
    ((requestKind r = .deblock ∨ requestKind r = .testStart) → ¬ taken → Quiet s → refusedWith .state) ∧
    (taken →
      ((r = .deblock tg mg ∧ (65535 < tg ∨ 65535 < mg)) ∨
        (∃ alpha count, r = .testStart alpha count tg mg ∧
          (18000 < alpha ∨ 65535 < count ∨ 65535 < tg ∨ 65535 < mg)) → refusedWith .range) ∧
      (r = .deblock tg mg ∨ (∃ alpha count, r = .testStart alpha count tg mg ∧ alpha ≤ 18000 ∧ count ≤ 65535) →
        tg ≤ 65535 → mg ≤ 65535 →
        (tableComplete s.store = false → refusedWith .incomplete) ∧
        (tableComplete s.store = true →
          (tg ≠ s.store.tableGen ∨ mg ≠ s.store.mapGen → refusedWith .signature) ∧
          (tg = s.store.tableGen → mg = s.store.mapGen →
            (¬ lockOk → refusedWith .phase) ∧
            (lockOk →
              (stopInAction s = true → refusedWith .protection) ∧
              (stopInAction s = false → r = .deblock tg mg → redundancyLost s = true →
                refusedWith .redundancy))))))

/-- BLOCK from PRECHECK, RUNNING, BYPASS, RETARD, TESTING or TEST_HELD leads to BLOCKED, with the calendar discarded, the
generators OFF, the timers stopped, the ready set empty and the test angle absent, and with the NOTICE_STATE after the reply; in
BLOCKED it changes nothing; in UNCONFIGURED it is refused (R124, R125, R52, R71, R117). -/
def Obligations.BlockLeadsToBlocked : Prop :=
  ∀ (s : State) (tag : Nat), TakesRequest s tag .block →
    (isGuarded s.ctl.state = true →
      CompletesSending .block s
        [.reply .block tag .done .empty, .noticeState s.ctl.state .blocked .block none s.now]
        { popped s with
          ctl := { s.ctl with
            state := .blocked
            precheckTimer := none
            ready := Vector.replicate 12 false
            retardTimer := none }
          acu := { s.acu with testAngle := none }
          cal := { s.cal with orders := [], discarded := s.cal.discarded + s.cal.orders.length }
          gens := Vector.replicate 12 generatorOff
          store := { s.store with step := 0 } }) ∧
    (s.ctl.state = .blocked →
      CompletesReplying .block s (.reply .block tag .done .empty) (abandoned (popped s))) ∧
    (s.ctl.state = .unconfigured →
      CompletesReplying .block s (.reply .block tag .state .empty) (abandoned (popped s)))

/-- BYPASS in RUNNING: in each bridge the leg of its mark, or {1,4}, is chosen; the NORMAL orders are discarded; the four valves
are fired, lower then higher of the Y leg and of the D leg, each with its history record, window and main pulse, and held; every
other generator is OFF; each mark holds the higher valve of its leg, and the NOTICE_STATE follows the reply. In another state it
is refused (R126, R48, R55, R62, R68, R69, R77, R78, R117).
The record of the pulse last started on a line is the model's own (log 10). -/
def Obligations.BypassHoldsTwoLegs : Prop :=
  ∀ (s : State) (tag : Nat), TakesRequest s tag .bypass → Quiet s →
    (s.ctl.state = .running →
      let y := pairY s.ctl.lastY
      let d := pairD s.ctl.lastD
      let legY := (valveNumber y.1, valveNumber y.2)
      let legD := (valveNumber d.1, valveNumber d.2)
      let record := fun (n : Nat) (v : Valve) => (⟨s.cal.fired + n, v, .bypass, none, s.now, s.now, none, none,
        ⟨false, false, false, false⟩⟩ : FiringRecord)
      ∃ t, exec .bypass s = .next t ∧ t.ctl.state = .bypass ∧
      (s.port.outgoing ++ [.reply .bypass tag .done .empty, .noticeState .running .bypass .bypass none s.now]) <+:
        t.port.outgoing ∧
      ((s.ctl.lastY = none ∨ s.ctl.lastY = some 0 ∨ s.ctl.lastY = some 3) → legY = (1, 4)) ∧
      ((s.ctl.lastY = some 2 ∨ s.ctl.lastY = some 5) → legY = (3, 6)) ∧
      ((s.ctl.lastY = some 1 ∨ s.ctl.lastY = some 4) → legY = (2, 5)) ∧
      ((s.ctl.lastD = none ∨ s.ctl.lastD = some 6 ∨ s.ctl.lastD = some 9) → legD = (7, 10)) ∧
      ((s.ctl.lastD = some 8 ∨ s.ctl.lastD = some 11) → legD = (9, 12)) ∧
      ((s.ctl.lastD = some 7 ∨ s.ctl.lastD = some 10) → legD = (8, 11)) ∧
      t.cal.orders = s.cal.orders.filter (fun o => decide (o.kind ≠ .normal)) ∧
      t.cal.created = s.cal.created + 4 ∧ t.cal.fired = s.cal.fired + 4 ∧
      t.cal.discarded = s.cal.discarded + s.cal.orders.countP (fun o => decide (o.kind = .normal)) ∧
      t.cal.ring = ([record 4 d.2, record 3 d.1, record 2 y.2, record 1 y.1] ++ s.cal.ring).take 64 ∧
      t.ctl.lastY = some y.2 ∧ t.ctl.lastD = some d.2 ∧
      (∀ v : Valve,
        if v = y.1 ∨ v = y.2 ∨ v = d.1 ∨ v = d.2
        then
          let m := s.monitors[v]
          let window := if m.window = 65535 then 1 else m.window + 1
          t.gens[v] = ⟨.hold, none, some (s.now + s.store.setup.angles.repeatTicks), 0,
            some (max (s.gens[v].litUntil.getD 0) (s.now + 100))⟩ ∧
          t.emitters[v] = ⟨s.emitters[v].probeUntil, some ⟨.main, s.now, some window⟩⟩ ∧
          t.monitors[v] = (if m.window = 0 ∨ m.accepted = true then { m with window := window, accepted := false }
            else { m with
              window := window
              accepted := false
              missingRun := min 3 (m.missingRun + 1)
              lost := m.lost || decide (2 ≤ m.missingRun) })
        else t.gens[v] = generatorOff ∧ t.emitters[v] = s.emitters[v] ∧ t.monitors[v] = s.monitors[v]) ∧
      t.pru = s.pru ∧ t.acu = s.acu ∧ t.meas = s.meas ∧ t.now = s.now ∧ t.snapshot = s.snapshot ∧
      t.store = { s.store with step := 0 }) ∧
    (s.ctl.state ≠ .running →
      CompletesReplying .bypass s (.reply .bypass tag .state .empty) (abandoned (popped s)))

/-- The test run: TEST_START from BLOCKED sets the clamped test angle, the mode and the counts and enters TESTING; TEST_SUSPEND
discards the calendar and darkens the generators; TEST_RESUME enters TESTING again with the run as it was kept; each change sends
its NOTICE_STATE after the reply. TEST_SUSPEND outside TESTING and TEST_RESUME outside TEST_HELD are refused with STATE, and
TEST_RESUME with PROTECTION while a stop source is in action (R129, R131, R132, R96, R117). -/
def Obligations.TestRunStartsSuspendsResumes : Prop :=
  ∀ (s : State) (tag : Nat),
    (Calm s → (∀ alpha count tg mg : Nat, TakesRequest s tag (.testStart alpha count tg mg) → s.ctl.state = .blocked →
      s.port.linkSilent = false → alpha ≤ 18000 → count ≤ 65535 → tg ≤ 65535 → mg ≤ 65535 →
      tableComplete s.store = true → tg = s.store.tableGen → mg = s.store.mapGen → s.pru.lock = .locked →
      stopInAction s = false →
      CompletesSending .testStart s
        [.reply .testStart tag .done .empty, .noticeState .blocked .testing .testStart none s.now]
        { popped s with
          acu := { s.acu with
            testAngle := some (clampNat alpha s.store.setup.angles.alphaMin s.store.setup.angles.alphaMax) }
          ctl := { s.ctl with
            state := .testing
            testMode := if count = 0 then .continuous else .fixed
            programmed := if count = 0 then 65535 else count
            remaining := if count = 0 then 65535 else count
            wraps := 0 }
          monitors := s.monitors.map fun m => { m with window := 0, accepted := false, armed := false }
          store := { s.store with step := 0 } }) ∧
    (TakesRequest s tag .testSuspend → s.ctl.state = .testing →
      CompletesSending .testSuspend s
        [.reply .testSuspend tag .done .empty, .noticeState .testing .testHeld .testSuspend none s.now]
        { popped s with
          ctl := { s.ctl with state := .testHeld }
          cal := { s.cal with orders := [], discarded := s.cal.discarded + s.cal.orders.length }
          gens := Vector.replicate 12 generatorOff
          store := { s.store with step := 0 } }) ∧
    (TakesRequest s tag .testResume → s.ctl.state = .testHeld → stopInAction s = false →
      CompletesSending .testResume s
        [.reply .testResume tag .done .empty, .noticeState .testHeld .testing .testResume none s.now]
        { popped s with
          ctl := { s.ctl with state := .testing }
          monitors := s.monitors.map fun m => { m with window := 0, accepted := false, armed := false }
          store := { s.store with step := 0 } })) ∧
    (Quiet s → (TakesRequest s tag .testSuspend → s.ctl.state ≠ .testing →
      CompletesReplying .testSuspend s (.reply .testSuspend tag .state .empty) (abandoned (popped s))) ∧
    (TakesRequest s tag .testResume →
      (s.ctl.state ≠ .testHeld →
        CompletesReplying .testResume s (.reply .testResume tag .state .empty) (abandoned (popped s))) ∧
      (s.ctl.state = .testHeld → stopInAction s = true →
        CompletesReplying .testResume s (.reply .testResume tag .protection .empty) (abandoned (popped s)))))

/-! ## Angle orders and the phase restart -/

/-- ANGLE_ORDER in range pends with apply point RN + 1 + L, or replaces the pending angle and keeps its apply point; above
18,000 it is refused with RANGE; either way it restarts the order timer (R22, R23, R169). -/
def Obligations.AngleOrderPends : Prop :=
  ∀ (s : State) (tag alpha : Nat), TakesRequest s tag (.angleOrder alpha) → Quiet s →
    let timed : State := { popped s with
      port := { s.port with
        requests := s.port.requests.tail
        orderTimer := some (s.now + s.store.setup.guard.orderTimeout * 10000) }
      store := { s.store with step := 0 } }
    (alpha ≤ 18000 →
      (s.acu.waiting = none →
        CompletesReplying .angleOrder s (.reply .angleOrder tag .done .empty)
          { timed with acu := { s.acu with
              waiting := some ⟨alpha, s.pru.rn + 1 + s.store.setup.angles.latency⟩ } }) ∧
      (∀ w, s.acu.waiting = some w →
        CompletesReplying .angleOrder s (.reply .angleOrder tag .done .empty)
          { timed with acu := { s.acu with waiting := some ⟨alpha, w.applyPoint⟩ } })) ∧
    (18000 < alpha → CompletesReplying .angleOrder s (.reply .angleOrder tag .range .empty) timed)

/-- PHASE_RESTART at rest puts the PRU to UNLOCKED at P_nom with its numbers and counts at 0 and rebases the apply point of a
pending order; elsewhere it is refused with STATE and changes nothing (R17, R25). -/
def Obligations.PhaseRestartAtRest : Prop :=
  ∀ (s : State) (tag : Nat), TakesRequest s tag .phaseRestart →
    (isAtRest s.ctl.state = true →
      CompletesReplying .phaseRestart s (.reply .phaseRestart tag .done .empty)
        { popped s with
          pru := ⟨.unlocked, pNom s.store.setup.phase.fNom, 0, 0, 0, none, 0, 0, 0, 0⟩
          acu := { s.acu with
            waiting := s.acu.waiting.map fun w => { w with applyPoint := 1 + s.store.setup.angles.latency } }
          store := { s.store with step := 0 } }) ∧
    (isAtRest s.ctl.state = false → Quiet s →
      CompletesReplying .phaseRestart s (.reply .phaseRestart tag .state .empty) (abandoned (popped s)))

/-! ## Protection Resolver -/

/-- PROT_MASK replaces the whole mask set, unless the list names a number above 7 or one of 0, 1 and 2: then it is refused
with RANGE and the set is as it was (R111). -/
def Obligations.ProtMaskReplacesTheSet : Prop :=
  ∀ (s : State) (tag : Nat) (sources : List Nat), TakesRequest s tag (.protMask sources) → Quiet s →
    ((∀ n ∈ sources, 3 ≤ n ∧ n ≤ 7) →
      ∃ t, exec .protMask s = .next t ∧ SameButResolver (abandoned (popped s)) t ∧
        (s.port.outgoing ++ [.reply .protMask tag .done .empty]) <+: t.port.outgoing ∧
        ∀ src, hasSource t.prot.masks src = sources.contains (sourceNumber src)) ∧
    ((∃ n ∈ sources, n < 3 ∨ 7 < n) →
      ∃ t, exec .protMask s = .next t ∧ SameButResolver (abandoned (popped s)) t ∧
        (s.port.outgoing ++ [.reply .protMask tag .range .empty]) <+: t.port.outgoing ∧
        t.prot.masks = s.prot.masks)

/-- PROT_END is refused with RANGE above 7, with STATE for a source not in action, and with REDUNDANCY for VALVE_TRIP while some
F_v exceeds R; PROT_END_TOP with STATE when nothing is in action and with REDUNDANCY likewise; a refusal changes nothing at the
resolver (R108). -/
def Obligations.ProtEndRefusals : Prop :=
  ∀ (s : State) (tag : Nat), Settled s →
    (∀ n : Nat, TakesRequest s tag (.protEnd n) →
      (7 < n → Answers .protEnd s (.reply .protEnd tag .range .empty) (abandoned (popped s))) ∧
      (∀ src, sourceNumber src = n →
        (isInAction s src = false → Answers .protEnd s (.reply .protEnd tag .state .empty) (abandoned (popped s))) ∧
        (isInAction s src = true → src = .valveTrip → redundancyLost s = true →
          Answers .protEnd s (.reply .protEnd tag .redundancy .empty) (abandoned (popped s))))) ∧
    (TakesRequest s tag .protEndTop →
      (s.prot.inAction = [] → Answers .protEndTop s (.reply .protEndTop tag .state .empty) (abandoned (popped s))) ∧
      (isInAction s .valveTrip = true → redundancyLost s = true →
        Answers .protEndTop s (.reply .protEndTop tag .redundancy .empty) (abandoned (popped s))))

/-- A host end takes its source out of action, with the END notice after the reply; without a repeat mark or a condition the
source is IDLE afterwards, and the trip line is released when it was VALVE_TRIP. PROT_END_TOP ends the highest-priority source
in action and names it in its reply (R108, R109, R106). A VALVE_TRIP with its repeat mark set is ended here only where its next
grant finds no converter state to stop. -/
def Obligations.HostEndsASource : Prop :=
  ∀ (s : State) (tag : Nat) (src : Source), Quiet s → Placed s → isInAction s src = true →
    ¬(src = .valveTrip ∧ redundancyLost s = true) →
    (src = .valveTrip → hasSource s.prot.repeats src = true → Unmoved s.ctl.state) →
    let ended := fun (c : Instr) (reply : OutRecord) => ∃ t, exec c s = .next t ∧
      SameButResolver (abandoned (popped s)) t ∧
      (s.port.outgoing ++ [reply, .noticeEnd src .host s.now]) <+: t.port.outgoing ∧
      (conditionHolds s src = false → hasSource s.prot.repeats src = false →
        isInAction t src = false ∧ isPending t src = false ∧ (src = .valveTrip → t.prot.tripLine = false))
    (TakesRequest s tag (.protEnd (sourceNumber src)) → ended .protEnd (.reply .protEnd tag .done .empty)) ∧
    (TakesRequest s tag .protEndTop → (∀ b, isInAction s b = true → sourceNumber src ≤ sourceNumber b) →
      ended .protEndTop (.reply .protEndTop tag .done (.endedSource src)))

/-- PROT_STATUS answers DONE in every converter state with the seven items of the resolver as they stand, and changes no state
(R112). -/
def Obligations.ProtStatusShowsTheResolver : Prop :=
  ∀ (s : State) (tag : Nat), Settled s → TakesRequest s tag .protStatus →
    Answers .protStatus s (.reply .protStatus tag .done (.protection
      ⟨s.prot.waiting, s.prot.inAction, s.prot.cfTimer, s.prot.refireTimer, s.prot.repeats, s.prot.masks,
        s.store.setup.nesting, s.prot.cfRun, s.prot.tripLine⟩)) (popped s)

/-! ## Level Monitor requests -/

/-- LEVEL_LATCH copies the whole table, the twelve counts, N_L and the time into the snapshot; a held snapshot is answered HELD
and kept; LEVEL_RELEASE ends the hold (R92, R93). -/
def Obligations.SnapshotLatchedHeldReleased : Prop :=
  ∀ (s : State) (tag : Nat), Settled s →
    (TakesRequest s tag .levelLatch →
      (s.snapshot = none →
        Answers .levelLatch s (.reply .levelLatch tag .done (.latchTime s.now))
          { abandoned (popped s) with snapshot := some ⟨s.monitors.map (·.levels),
              s.monitors.map (fun m => outCount m.levels), s.store.setup.levels.nL, s.now⟩ }) ∧
      (∀ c, s.snapshot = some c →
        Answers .levelLatch s (.reply .levelLatch tag .held (.latchTime c.latchTime)) (abandoned (popped s)))) ∧
    (TakesRequest s tag .levelRelease →
      Answers .levelRelease s (.reply .levelRelease tag .done .empty) { abandoned (popped s) with snapshot := none })

/-- LEVEL_READ without a snapshot is refused with NO_SNAPSHOT, then with RANGE for a valve outside 1..12 or a first level outside
1..N_L of the snapshot; otherwise it carries the latch time, N_L, F_v and up to 32 entries from the first level onward, and
changes no state but an open setup sequence, which it closes (R94, R143). -/
def Obligations.LevelReadShowsTheSnapshot : Prop :=
  ∀ (s : State) (tag valve first : Nat), Settled s → TakesRequest s tag (.levelRead valve first) →
    (s.snapshot = none → Answers .levelRead s (.reply .levelRead tag .noSnapshot .empty) (abandoned (popped s))) ∧
    (∀ c, s.snapshot = some c →
      (valve < 1 ∨ 12 < valve ∨ first < 1 ∨ c.nL < first →
        Answers .levelRead s (.reply .levelRead tag .range .empty) (abandoned (popped s))) ∧
      (∀ v : Valve, valveNumber v = valve → 1 ≤ first → first ≤ c.nL →
        Answers .levelRead s (.reply .levelRead tag .done
          (.levels ⟨c.latchTime, c.nL, c.failed[v], (c.levels[v].drop (first - 1)).take 32⟩)) (abandoned (popped s))))

/-- LEVEL_FIND over a snapshot of twelve valves of N_L levels: the first match within 128 entries is FOUND with its position and
entry; without a match the scan is END when it has examined the last entry of the table, and otherwise PARTIAL with the position
after the 128th entry; the refusals are those of R95. -/
def Obligations.LevelFindScansTheSnapshot : Prop :=
  ∀ (s : State) (tag valve level : Nat) (states : List (Option LevelState)), Settled s →
    TakesRequest s tag (.levelFind valve level states) →
    (s.snapshot = none → Answers .levelFind s (.reply .levelFind tag .noSnapshot .empty) (abandoned (popped s))) ∧
    (∀ c, s.snapshot = some c → (∀ v : Valve, c.levels[v].length = c.nL) →
      (valve < 1 ∨ 12 < valve ∨ level < 1 ∨ c.nL < level ∨ none ∈ states →
        Answers .levelFind s (.reply .levelFind tag .range .empty) (abandoned (popped s))) ∧
      (1 ≤ valve → valve ≤ 12 → 1 ≤ level → level ≤ c.nL → none ∉ states →
        let start := (valve - 1) * c.nL + (level - 1)
        let entry := fun i => c.levels.toList.flatten[i]?
        let isMatch := fun i => ∃ e, entry i = some e ∧ some e.state ∈ states
        (∀ i e, start ≤ i → i < start + 128 → entry i = some e → some e.state ∈ states →
          (∀ j, start ≤ j → j < i → ¬ isMatch j) →
          Answers .levelFind s (.reply .levelFind tag .found
            (.levelFound (i / c.nL + 1) (i % c.nL + 1) e)) (abandoned (popped s))) ∧
        ((∀ j, start ≤ j → j < start + 128 → ¬ isMatch j) →
          (12 * c.nL ≤ start + 128 →
            Answers .levelFind s (.reply .levelFind tag .exhausted .empty) (abandoned (popped s))) ∧
          (start + 128 < 12 * c.nL →
            Answers .levelFind s (.reply .levelFind tag .partialScan
              (.levelNext ((start + 128) / c.nL + 1) ((start + 128) % c.nL + 1))) (abandoned (popped s))))))

/-- LEVEL_CLEAR and LEVEL_EXCLUDE: in BLOCKED, in range, the named entries become UNKNOWN with counts 0, or EXCLUDED with the runs
0 and pf_total kept, and nothing else changes but for the resolver; out of range RANGE; in another state STATE (R89, R90). -/
def Obligations.LevelsClearedAndExcluded : Prop :=
  ∀ (s : State) (tag valve level : Nat),
    (∀ r : Request, TakesRequest s tag r → r = .levelClear valve (some level) ∨ r = .levelClear valve none ∨
        r = .levelExclude valve level →
      (s.ctl.state ≠ .blocked → Quiet s →
        CompletesReplying (rowOfKind (requestKind r)) s (.reply (requestKind r) tag .state .empty)
          (abandoned (popped s))) ∧
      (s.ctl.state = .blocked →
        valve < 1 ∨ 12 < valve ∨ (r ≠ .levelClear valve none ∧ (level < 1 ∨ s.store.setup.levels.nL < level)) →
        CompletesReplying (rowOfKind (requestKind r)) s (.reply (requestKind r) tag .range .empty)
          (abandoned (popped s)))) ∧
    (∀ v : Valve, valveNumber v = valve → s.ctl.state = .blocked →
      (TakesRequest s tag (.levelClear valve none) → 1 ≤ s.store.setup.levels.nL →
        CompletesReplying .levelClear s (.reply .levelClear tag .done .empty)
          { abandoned (popped s) with monitors := s.monitors.set v { s.monitors[v] with
              levels := s.monitors[v].levels.map fun _ => ⟨.unknown, 0, 0, 0, none⟩ } }) ∧
      (1 ≤ level → level ≤ s.store.setup.levels.nL →
        (TakesRequest s tag (.levelClear valve (some level)) →
          CompletesReplying .levelClear s (.reply .levelClear tag .done .empty)
            { abandoned (popped s) with monitors := s.monitors.set v { s.monitors[v] with
                levels := s.monitors[v].levels.set (level - 1) ⟨.unknown, 0, 0, 0, none⟩ } }) ∧
        (TakesRequest s tag (.levelExclude valve level) →
          CompletesReplying .levelExclude s (.reply .levelExclude tag .done .empty)
            { abandoned (popped s) with monitors := s.monitors.set v { s.monitors[v] with
                levels := s.monitors[v].levels.modify (level - 1) fun e =>
                  if e.state = .excluded then e else ⟨.excluded, 0, 0, e.pfTotal, some s.now⟩ } })))

/-! ## Control Link Port -/

/-- STATUS answers with the contents of R170 as they stand, then clears the test-done and notice-lost flags, and changes no other
state (R170, R133). -/
def Obligations.StatusShowsAndClears : Prop :=
  ∀ (s : State) (tag : Nat), Settled s → TakesRequest s tag .status →
    Answers .status s (.reply .status tag .done (.status
      { state := s.ctl.state, testMode := s.ctl.testMode, programmed := s.ctl.programmed,
        remaining := s.ctl.remaining, wraps := s.ctl.wraps, testDone := s.ctl.testDone,
        lock := s.pru.lock, p := s.pru.p, rn := s.pru.rn, k := s.pru.k, distorted := s.pru.distorted,
        activeAlpha := s.acu.active.getD s.store.setup.angles.alphaStart,
        pendingOrder := s.acu.waiting, aPrev := s.acu.aPrev, cfpMargin := s.acu.cfpMargin,
        calendarCount := s.cal.orders.length, created := s.cal.created, fired := s.cal.fired,
        discarded := s.cal.discarded, stale := s.meas.stale, linkSilent := s.port.linkSilent,
        noticeLost := s.port.noticeLost, step := s.store.step, time := s.now }))
      { s with
        ctl := { s.ctl with testDone := false }
        port := { s.port with requests := s.port.requests.tail, noticeLost := false } }

/-- HISTORY_READ refuses an offset above 63 with RANGE; otherwise it answers DONE with the number of records held and up to 8
records from the offset onward, newest first, and changes no state of the calendar (R57). -/
def Obligations.HistoryReadShowsTheRing : Prop :=
  ∀ (s : State) (tag offset : Nat), Settled s → TakesRequest s tag (.historyRead offset) →
    (63 < offset → Answers .historyRead s (.reply .historyRead tag .range .empty) (popped s)) ∧
    (offset ≤ 63 → Answers .historyRead s (.reply .historyRead tag .done
      (.history s.cal.ring.length ((s.cal.ring.drop offset).take 8))) (popped s))

/-- A frame of unknown kind is answered UNKNOWN with its kind code and abandons an open sequence; a request with a bad body length
is answered RANGE before every other check, abandons an open sequence unless it is read-only or a setup record, and as an
ANGLE_ORDER restarts the order timer (R164, R165, R143, R169).
What a bad body length leaves of the rules of taking is the model's inference (log 19). -/
def Obligations.UnknownAndMisfitRequestsAnswered : Prop :=
  ∀ (s : State) (tag : Nat), Quiet s → s.port.outgoing.length ≤ 16 →
    (∀ code : Nat, s.port.requests.head? = some ⟨tag, .unknownKind code⟩ →
      CompletesReplying .unknownRequest s (.unknownReply tag code) (abandoned (popped s))) ∧
    (∀ k : RequestKind, s.port.requests.head? = some ⟨tag, .badLength k⟩ →
      (isReadOnly k = true ∨ isSetupRecord k = true →
        CompletesReplying (rowOfKind k) s (.reply k tag .range .empty) (popped s)) ∧
      (isReadOnly k = false → isSetupRecord k = false → k ≠ .angleOrder →
        CompletesReplying (rowOfKind k) s (.reply k tag .range .empty) (abandoned (popped s))) ∧
      (k = .angleOrder →
        CompletesReplying .angleOrder s (.reply .angleOrder tag .range .empty)
          { s with
            port := { s.port with
              requests := s.port.requests.tail
              orderTimer := some (s.now + s.store.setup.guard.orderTimeout * 10000) }
            store := { s.store with step := 0 } }))

/-- A good control frame that comes where the receiver is between frames restarts the link timer, ends the link-silent condition,
and joins the queue's tail when it holds fewer than 8 frames; the line's receiver hunts again (R163, R168, R160). The kind byte of
a frame read from its bytes is that of one of the 31 requests or of an unknown kind (R159, R164).
That a good frame arrives whole is the model's choice (log 9). -/
def Obligations.ControlFrameJoinsTheQueue : Prop :=
  (∀ (kind tag : Byte) (body : List Byte),
    (controlFrameOf kind tag body).tag = tag.toNat ∧
    (kind.toNat = 0 ∨ 31 < kind.toNat → (controlFrameOf kind tag body).body = .unknownKind kind.toNat) ∧
    (∀ k : RequestKind, requestCode k = kind.toNat →
      (controlFrameOf kind tag body).body = .badLength k ∨
        ∃ r, (controlFrameOf kind tag body).body = .request r ∧ requestKind r = k)) ∧
  ∀ (s : State) (f : ControlFrame), Quiet s → betweenFrames .control s = true →
    Completes (.controlFrame f) s
      { s with
        receivers := { s.receivers with control := .hunting }
        port := { s.port with
          linkTimer := some (s.now + s.store.setup.guard.linkTimeout * 10000)
          linkSilent := false
          requests := if s.port.requests.length < 8 then s.port.requests ++ [f] else s.port.requests } }

/-- A record of length byte n leaves the outgoing list 8 ticks for each of its 4 + n bytes after its sending began, its frame has
then gone out, and the next begins; nothing else changes (R166, R159). A refusal or a bare acceptance has n = 3 and the reply to
an unknown kind n = 4, and their frames are fixed byte for byte (R165, R161).
That the sending of a record begins when the one before has ended, or at its own entry, and the record of the frame last sent are
the model's (log 8), and so is the bound that keeps the free layout of every other body within a frame (log 7); where station time
stands when the event is taken is the model's choice (log 2). -/
def Obligations.RecordSentLeavesTheList : Prop :=
  (∀ (s : State) (r : OutRecord) (rest : List OutRecord) (start n : Nat), s.port.outgoing = r :: rest →
    s.port.sendStart = some start → recordLength r = n → canReach (start + 8 * (4 + n)) s = true →
    exec (.recordSent n) s = .next { s with
      now := max s.now (start + 8 * (4 + n))
      port := { s.port with
        outgoing := rest
        sendStart := if rest = [] then none else some (max s.now (start + 8 * (4 + n)))
        lastSent := some (outFrame r) } }) ∧
  (∀ r : OutRecord, 2 ≤ recordLength r ∧ recordLength r ≤ 250 ∧ (outFrame r).length = 4 + recordLength r) ∧
  (∀ (k : RequestKind) (tag : Nat) (code : Completion),
    recordLength (.reply k tag code .empty) = 3 ∧
    outFrame (.reply k tag code .empty) =
      let covered : List Byte := [3, BitVec.ofNat 8 (requestCode k + 0x80), BitVec.ofNat 8 tag,
        BitVec.ofNat 8 (completionCode code)]
      0x7E :: covered ++ twoBytes (crc16 covered)) ∧
  ∀ tag kind : Nat,
    recordLength (.unknownReply tag kind) = 4 ∧
    outFrame (.unknownReply tag kind) =
      let covered : List Byte := [4, 0xFF, BitVec.ofNat 8 tag, 0x1A, BitVec.ofNat 8 kind]
      0x7E :: covered ++ twoBytes (crc16 covered)

/-- Nothing but the line's receiver changes at a frame that is discarded for its CRC, for a bad length byte, for a body length
other than its kind's, or for a kind that its line does not carry, all read from its bytes where the receiver hunts (R160, R161,
R151, R162); at a byte after a gap of more than 40 ticks, which is hunted through; and at a good frame inside another that it does
not fill, which is read on. A frame given up at its gap leaves the receiver hunting and brings station time to the gap's end.
That the gap ends at its 41st tick and that a frame arrives whole are the model's choice (log 9), and so is where station time
stands when BYTE_GAP_TIMEOUT is taken (log 2). -/
def Obligations.FailedFramesChangeNothing : Prop :=
  ∀ (s : State) (line : Line),
    let heard := fun r : Receiver => ({ s with receivers := setLineReceiver s.receivers line r } : State)
    (lineReceiver s.receivers line = .hunting →
      (∀ (n : Byte) (rest : List Byte), 2 ≤ n.toNat → n.toNat ≤ 250 →
        rest.length = n.toNat + 2 → rest.drop n.toNat ≠ twoBytes (crc16 (n :: rest.take n.toNat)) →
        exec (.discardedFrame line (0x7E :: n :: rest)) s = .next s) ∧
      (∀ n : Byte, n.toNat < 2 ∨ 250 < n.toNat → exec (.discardedFrame line [0x7E, n]) s = .next s) ∧
      (∀ (kind tag : Byte) (body : List Byte), body.length ≤ 248 →
        (line = .measurement ∧
          ((kind ≠ 0x40 ∧ kind ≠ 0x41) ∨ (kind = 0x40 ∧ body.length ≠ 5) ∨ (kind = 0x41 ∧ body.length ≠ 2))) ∨
        ((∃ v, line = .ret v) ∧
          ((kind ≠ 0x50 ∧ kind ≠ 0x51) ∨ (kind = 0x51 ∧ body.length ≠ 1) ∨
            (kind = 0x50 ∧ (body.length < 19 ∨
              ∃ c, body[18]? = some c ∧ (8 < c.toNat ∨ body.length ≠ 19 + c.toNat))))) →
        exec (.discardedFrame line (frameBytes kind tag body)) s = .next s)) ∧
    (∀ last : Nat, (lineReceiver s.receivers line = .awaitLength last ∨
        ∃ n got, lineReceiver s.receivers line = .reading n got last) →
      (last + 40 < s.now → ∀ b : Byte,
        exec (.discardedFrame line [b]) s = .next (heard (if b = 0x7E then .awaitLength s.now else .hunting))) ∧
      (canReach (last + 41) s = true →
        exec (.byteGapTimeout line) s = .next { heard .hunting with now := max s.now (last + 41) })) ∧
    (∀ (n last : Nat) (got bytes : List Byte) (c : Instr), lineReceiver s.receivers line = .reading n got last →
      s.now ≤ last + 40 → partnerFrame (Config.partnerTag line s.now) c = some bytes →
      got.length + bytes.length < n + 2 →
      (match c with
        | .sample _ _ _ => line = .measurement
        | .crossing _ _ => line = .measurement
        | .returnRecord v _ => line = .ret v
        | .reappear v _ => line = .ret v
        | _ => False) →
      exec c s = .next (heard (.reading n (got ++ bytes) s.now)))

/-- Every well-formed record of the partner lines, framed with any tag, is read back from its bytes by its line's receiver: no
bit of a record is dropped or moved; a control frame's bytes give its kind, tag and body to the port; and the CRC of every frame
that the part sends is the one that a receiver finds over its bytes 1 to n + 1 (R159, R160, R161). The layouts of the bodies
that the spec leaves unstated are free, and their bound is the model's (log 7). -/
def Obligations.PartnerFramesReadBack : Prop :=
  (∀ (line : Line) (t : Nat) (tag : Byte) (c : Instr) (bytes : List Byte), wellFormed c = true →
    partnerFrame tag c = some bytes →
    (match c with
      | .sample _ _ _ => line = .measurement
      | .crossing _ _ => line = .measurement
      | .returnRecord v _ => line = .ret v
      | .reappear v _ => line = .ret v
      | _ => False) →
    receiveBytes line t .hunting bytes = (.hunting, [.record c])) ∧
  (∀ (t : Nat) (kind tag : Byte) (body : List Byte), body.length ≤ 248 →
    receiveBytes .control t .hunting (frameBytes kind tag body) =
      (.hunting, [.control (controlFrameOf kind tag body)])) ∧
  ∀ r : OutRecord, (outFrame r)[1]? = some (BitVec.ofNat 8 (recordLength r)) ∧
    (outFrame r).drop (recordLength r + 2) =
      twoBytes (crc16 (((outFrame r).drop 1).take (recordLength r + 1)))

/-! ## Phase Reference Unit -/

/-- In UNLOCKED a kind-0 crossing starts acquisition at its crossing time and another kind is ignored; in the other lock states a
crossing of an unexpected kind, or one before its window, is rejected and counted, and changes nothing else (R3, R6, R11, R12).
It comes where the line's receiver is between frames, and that receiver hunts again (log 9). -/
def Obligations.CrossingStartsOrIsRejected : Prop :=
  ∀ (s : State) (kind lag : Nat), betweenFrames .measurement s = true →
    let arrived : State := { s with receivers := { s.receivers with measurement := .hunting } }
    (s.pru.lock = .unlocked → kind = 0 → ∃ t, exec (.crossing kind lag) s = .next t ∧
      t.pru = { s.pru with
        lock := .acquiring
        tRef := s.now - lag
        p := pNom s.store.setup.phase.fNom
        k := 1
        good := 0
        flywheel := 0
        holdover := 0
        pred := some ⟨s.now - lag + (pNom s.store.setup.phase.fNom + 3) / 6, s.store.setup.phase.w,
          4 * s.store.setup.phase.w⟩ }) ∧
    (Settled s → TestCountInv s →
      (s.pru.lock = .unlocked → kind ≠ 0 → exec (.crossing kind lag) s = .next arrived) ∧
      (s.pru.lock ≠ .unlocked → ∀ q, s.pru.pred = some q →
        kind ≠ s.pru.k ∨ (s.now - lag) + q.wEff < q.tPred →
        exec (.crossing kind lag) s =
          .next { arrived with pru := { s.pru with distorted := min 65535 (s.pru.distorted + 1) } }))

/-- An accepted crossing of error e corrects P by trunc(3e/8) within its limits and T_ref by trunc(e/4), advances k and RN,
steps the lock counts of its lock state, and makes the next prediction (R5, R4, R13, R14, R15).
It comes where the line's receiver is between frames (log 9). -/
def Obligations.CrossingAcceptedCorrects : Prop :=
  ∀ (s : State) (lag : Nat) (q : Prediction) (e : Int), betweenFrames .measurement s = true → s.pru.pred = some q →
    e = ((s.now - lag : Nat) : Int) - q.tPred → e.natAbs ≤ q.wEff →
    let ph := s.store.setup.phase
    let p := (clampInt (s.pru.p + truncDiv (3 * e) 8) (pMin ph.fNom) (pMax ph.fNom)).toNat
    let tRef := (q.tPred + truncDiv e 4).toNat
    let after := fun (lock : LockState) (good flywheel holdover : Nat) =>
      (⟨lock, p, tRef, (s.pru.k + 1) % 6, s.pru.rn + 1,
        some ⟨tRef + (p + 3) / 6, ph.w, if lock = .acquiring then 4 * ph.w else ph.w⟩,
        good, flywheel, holdover, s.pru.distorted⟩ : Pru)
    ∃ t, exec (.crossing s.pru.k lag) s = .next t ∧
      t.store = s.store ∧ t.meas = s.meas ∧ t.snapshot = s.snapshot ∧ t.now = s.now ∧
      t.port.requests = s.port.requests ∧ (∀ v : Valve, t.monitors[v].levels = s.monitors[v].levels) ∧
      (s.pru.lock = .locked → t.pru = after .locked s.pru.good 0 s.pru.holdover) ∧
      (s.pru.lock = .acquiring →
        (q.wp < e.natAbs → t.pru = after .acquiring 0 0 s.pru.holdover) ∧
        (e.natAbs ≤ q.wp → s.pru.good < 11 → t.pru = after .acquiring (s.pru.good + 1) 0 s.pru.holdover) ∧
        (e.natAbs ≤ q.wp → s.pru.good = 11 → t.pru = after .locked 0 0 0)) ∧
      (s.pru.lock = .holdover →
        (s.pru.good < 2 → t.pru = after .holdover (s.pru.good + 1) s.pru.flywheel s.pru.holdover) ∧
        (s.pru.good = 2 → t.pru = after .locked 0 0 0))

/-- A point made from an accepted crossing makes two firing orders when it is usable and the converter is in a firing state, and
otherwise none (R9, R26). A usable point applies a pending order that is due (R24) and decays the CFP margin (R37); its Y and D
orders have the valves, kind, due times, angle, mu, RN and flags of R34, at the crossing's corrected reference time and period
(R35), a_prev becomes the applied angle (R33), and each order is taken as R45 to R47 state, standing and late ones fired as LATE.
The orders are told where no FIXED test run can end at the point; that both orders are taken when the first ends a test run is the
model's inference (log 16). The crossing comes where the line's receiver is between frames (log 9). -/
def Obligations.CrossingMakesTwoOrders : Prop :=
  ∀ (s : State) (lag : Nat) (q : Prediction), betweenFrames .measurement s = true → s.pru.pred = some q →
    s.pru.lock ≠ .unlocked → (((s.now - lag : Nat) : Int) - q.tPred).natAbs ≤ q.wEff → Quiet s → TestCountInv s →
    let e := ((s.now - lag : Nat) : Int) - q.tPred
    let fNom := s.store.setup.phase.fNom
    let period := (clampInt (s.pru.p + truncDiv (3 * e) 8) (pMin fNom) (pMax fNom)).toNat
    let time := (q.tPred + truncDiv e 4).toNat
    ∃ t, exec (.crossing s.pru.k lag) s = .next t ∧
      (s.pru.lock ≠ .acquiring ∧ isFiring s.ctl.state = true → t.cal.created = s.cal.created + 2) ∧
      (s.pru.lock = .acquiring ∨ isFiring s.ctl.state = false → t.cal = s.cal) ∧
      (s.pru.lock = .acquiring → t.acu = s.acu) ∧
      (s.pru.lock ≠ .acquiring → CalendarInv s → RunGoesOn s →
        PointWorked s t s.now s.pru.k (s.pru.rn + 1) time period)

/-- The armed expiry makes a flywheel point at T_pred: P stands, k and RN advance, and the counts of the lock state step to
HOLDOVER at the third in LOCKED, and to UNLOCKED at the sixth in ACQUIRING and at holdover_limit in HOLDOVER (R8, R13, R14, R15,
R16). A usable point that leaves the PRU out of UNLOCKED is worked as R24, R33 to R37 and R45 to R47 state; a point of ACQUIRING
makes no order. A fall to UNLOCKED in a guarded state with nothing in action grants PHASE_LOST, whose stop demand takes RUNNING to
BYPASS or RETARD, or through RETARD to BLOCKED with a retard_time of 0, and PRECHECK, TESTING and TEST_HELD to BLOCKED (R101, R104,
R127, R128). That the fall's own point is taken before the grant is the model's inference (log 14).
Where station time stands when the event is taken is the model's choice (log 2). -/
def Obligations.ArmedExpiryFlywheels : Prop :=
  ∀ (s : State) (q : Prediction), s.pru.pred = some q → canReach (q.tPred + q.wEff) s = true →
    let ph := s.store.setup.phase
    let next := q.tPred + (s.pru.p + 3) / 6
    let after := fun (lock : LockState) (good flywheel holdover : Nat) =>
      (⟨lock, s.pru.p, q.tPred, (s.pru.k + 1) % 6, s.pru.rn + 1,
        some ⟨next, ph.w, if lock = .acquiring then 4 * ph.w else ph.w⟩, good, flywheel, holdover,
        s.pru.distorted⟩ : Pru)
    let fallen : Pru := ⟨.unlocked, s.pru.p, q.tPred, 0, s.pru.rn + 1, none, 0, 0, 0, s.pru.distorted⟩
    ∃ t, exec .armedExpiry s = .next t ∧ t.now = max s.now (q.tPred + q.wEff) ∧
      t.store = s.store ∧ t.meas = s.meas ∧ t.snapshot = s.snapshot ∧ t.port.requests = s.port.requests ∧
      (∀ v : Valve, t.monitors[v].levels = s.monitors[v].levels) ∧
      (s.pru.lock = .acquiring →
        (s.pru.flywheel < 5 → t.pru = after .acquiring 0 (s.pru.flywheel + 1) s.pru.holdover) ∧
        (s.pru.flywheel = 5 → t.pru = fallen)) ∧
      (s.pru.lock = .locked →
        (s.pru.flywheel < 2 → t.pru = after .locked s.pru.good (s.pru.flywheel + 1) s.pru.holdover) ∧
        (s.pru.flywheel = 2 → t.pru = after .holdover 0 3 3)) ∧
      (s.pru.lock = .holdover →
        (s.pru.holdover + 1 < ph.holdoverLimit → t.pru = after .holdover 0 s.pru.flywheel (s.pru.holdover + 1)) ∧
        (ph.holdoverLimit ≤ s.pru.holdover + 1 → t.pru = fallen)) ∧
      (Quiet s → CalendarInv s → RunGoesOn s →
        s.pru.lock = .locked ∨ (s.pru.lock = .holdover ∧ s.pru.holdover + 1 < ph.holdoverLimit) →
        PointWorked s t (max s.now (q.tPred + q.wEff)) s.pru.k (s.pru.rn + 1) q.tPred s.pru.p) ∧
      (Quiet s → s.pru.lock = .acquiring → s.pru.flywheel < 5 → TestCountInv s → t.acu = s.acu ∧ t.cal = s.cal) ∧
      ((s.pru.lock = .acquiring ∧ s.pru.flywheel = 5) ∨
          (s.pru.lock = .holdover ∧ ph.holdoverLimit ≤ s.pru.holdover + 1) →
        isGuarded s.ctl.state = true → s.prot.inAction = [] → isPending s .valveTrip = false →
        hasSource s.prot.masks .phaseLost = false →
        (RunGoesOn s → StopTaken s t .phaseLost (max s.now (q.tPred + q.wEff))) ∧
        (s.ctl.state = .testing → t.ctl.state = .blocked))

/-! ## Angle Computation Unit -/

/-- The applied angle lies in [alpha_min, alpha_max] of the setup in force, when the setup values lie in their ranges and a_prev
and a present test angle lie in that band (R34, R27, R28, R29, R33). In RETARD it is alpha_retard and in TESTING the test angle,
without flags (R29); in RUNNING at the rectifier it is the clamped active alpha moved from a_prev by at most step_up or step_down,
with LIMITED where the clamp or the step changes it (R27, R28). -/
def Obligations.AppliedAngleInBand : Prop :=
  ∀ s : State, anglesInRange s.store.setup.angles = true → isFiring s.ctl.state = true →
    s.store.setup.angles.alphaMin ≤ s.acu.aPrev → s.acu.aPrev ≤ s.store.setup.angles.alphaMax →
    (∀ a, s.acu.testAngle = some a → s.store.setup.angles.alphaMin ≤ a ∧ a ≤ s.store.setup.angles.alphaMax) →
    let v := s.store.setup.angles
    let active := s.acu.active.getD v.alphaStart
    let clamped := min (max active v.alphaMin) v.alphaMax
    let stepped := max (s.acu.aPrev - v.stepDown) (min clamped (s.acu.aPrev + v.stepUp))
    v.alphaMin ≤ (appliedAngle s).value ∧ (appliedAngle s).value ≤ v.alphaMax ∧
    (s.ctl.state = .retard → appliedAngle s = ⟨v.alphaRetard, ⟨false, false, false, false⟩⟩) ∧
    (s.ctl.state = .testing → ∀ a, s.acu.testAngle = some a → appliedAngle s = ⟨a, ⟨false, false, false, false⟩⟩) ∧
    (s.ctl.state = .running → s.store.setup.role = .rectifier →
      appliedAngle s = ⟨stepped, ⟨decide (stepped ≠ active), false, false, false⟩⟩)

/-- In the inverter role in RUNNING the applied angle is at most the larger of alpha_min and 18,000 - mu - M, with M the sum of
gamma_ref, the CFP margin and, while COMMUTATION_FAIL is in action, cf_boost (R32, R33). -/
def Obligations.InverterAngleKeepsTheMargin : Prop :=
  ∀ s : State, s.store.setup.role = .inverter → s.ctl.state = .running →
    let mu := overlap s.store s.meas.heldId s.meas.heldUac
    let m := s.store.setup.angles.gammaRef + s.acu.cfpMargin +
      (if isInAction s .commutationFail = true then s.store.setup.guard.cfBoost else 0)
    ((appliedAngle s).value : Int) ≤ max (s.store.setup.angles.alphaMin : Int) (18000 - mu - m)

/-- With every entry in 0..9,000 the interpolated overlap lies in 0..9,000; at a table node it is the entry, at Id 4,000 with Uac
from 1,200 up it is the corner entry, and a Uac below 500 counts as 500 (R30, R31). -/
def Obligations.OverlapInterpolates : Prop :=
  ∀ st : Store, (∀ (i : Nat) (hi : i < 33) (j : Nat) (hj : j < 8), st.table[i].entries[j] ≤ 9000) →
    (∀ id uac : Nat, id ≤ 4000 → overlap st id uac ≤ 9000) ∧
    (∀ (i : Nat) (hi : i < 32) (j : Nat) (hj : j < 7), overlap st (125 * i) (500 + 100 * j) = st.table[i].entries[j]) ∧
    (∀ uac : Nat, 1200 ≤ uac → overlap st 4000 uac = st.table[32].entries[7]) ∧
    (∀ id uac : Nat, uac ≤ 500 → overlap st id uac = overlap st id 500)

/-! ## Measurement Receiver -/

/-- A duplicate sample changes nothing but the receiver; any other is held clamped, restarts the stale timer, ends a stale
condition, and sets the CFP margin and starts its hold when it is low or ends staleness (R152, R153, R155, R36, R38). It comes
where the line's receiver is between frames, and that receiver hunts again (log 9). -/
def Obligations.SampleHeldOrDropped : Prop :=
  ∀ (s : State) (seq : Nat) (id : Int) (uac : Nat), betweenFrames .measurement s = true →
    let arrived : State := { s with receivers := { s.receivers with measurement := .hunting } }
    (s.meas.lastSeq = some seq → exec (.sample seq id uac) s = .next arrived) ∧
    (s.meas.lastSeq ≠ some seq → Quiet s →
      let raised := s.meas.stale = true ∨ min uac 2000 < s.store.setup.guard.cfpThreshold
      Completes (.sample seq id uac) s
        { arrived with
          meas := ⟨(max 0 (min id 4000)).toNat, min uac 2000, some seq,
            some (s.now + s.store.setup.guard.staleTimeout * 1000), false⟩
          acu := { s.acu with
            cfpMargin := if raised then s.store.setup.guard.cfpBoost else s.acu.cfpMargin
            cfpHold := if raised then some (s.now + s.store.setup.guard.cfpHold * 10000) else s.acu.cfpHold } })

/-- The stale timer's expiry makes the measurement stale, with the CFP margin at cfp_boost and its hold timer stopped; the CFP
hold timer's expiry stops that timer and leaves the margin (R154, R38, R37).
Where station time stands when the event is taken is the model's choice (log 2). -/
def Obligations.StaleAndCfpHoldExpire : Prop :=
  ∀ (s : State) (e : Nat), Quiet s → canReach e s = true →
    (s.meas.staleTimer = some e →
      Completes .staleTimerExpiry s
        { s with
          now := max s.now e
          meas := { s.meas with staleTimer := none, stale := true }
          acu := { s.acu with cfpMargin := s.store.setup.guard.cfpBoost, cfpHold := none } }) ∧
    (s.acu.cfpHold = some e →
      Completes .cfpHoldExpiry s { s with now := max s.now e, acu := { s.acu with cfpHold := none } })

/-! ## Return lines -/

/-- A RETURN record that names another valve or window, that comes with the accepted mark set, or for window 0 outside PRECHECK, is
discarded and changes nothing but the receiver (R79). An accepted record classifies every live level of its valve by the table
of R83 and leaves the levels that are out; a no-voltage record changes no level (R81); no other valve's levels change, nor the
PRU, the store, the measurement, the snapshot or the time. The accepted mark is set unless a BYPASS firing of the event closes
the window, and the missing run and the lost flag are cleared (R80). A record that takes F_v further above R raises a VALVE_TRIP
edge, which trips or, in action already, sets the repeat mark (R84, R100, R106), and whose stop demand acts on the converter where
the deblock has not failed first (R104, R127, R121). A probe answer in PRECHECK makes its valve ready, ends the deblock with
NO_VOLTAGE or REDUNDANCY naming the valve, or as the twelfth takes the converter to RUNNING (R86, R120, R121, R122, R123).
The record comes where the line's receiver is between frames, and that receiver hunts again (log 9). -/
def Obligations.ReturnDiscardedOrClassified : Prop :=
  ∀ (s : State) (line : Valve) (r : ReturnRecord), betweenFrames (.ret line) s = true →
    (r.valve ≠ valveNumber line ∨ r.window ≠ s.monitors[line].window ∨ s.monitors[line].accepted = true ∨
      (r.window = 0 ∧ s.ctl.state ≠ .precheck) →
      exec (.returnRecord line r) s = .next (frameEnded (.ret line) s)) ∧
    (r.valve = valveNumber line → r.window = s.monitors[line].window → s.monitors[line].accepted = false →
    (r.window ≠ 0 ∨ s.ctl.state = .precheck) →
    let lv := s.store.setup.levels
    let levels := s.monitors[line].levels
    let failed := levels.countP fun e => !isLive e.state
    let count := (List.range levels.length).countP fun i =>
      (levels[i]?.any fun e => isLive e.state) && r.present.getMsbD i
    let changed := fun (e : LevelEntry) (state : LevelState) =>
      if e.state = state then e.lastChange else some s.now
    ∃ t, exec (.returnRecord line r) s = .next t ∧
      t.pru = s.pru ∧ t.store = s.store ∧ t.meas = s.meas ∧ t.snapshot = s.snapshot ∧ t.now = s.now ∧
      (∀ v : Valve, v ≠ line → t.monitors[v].levels = s.monitors[v].levels) ∧
      (count < (lv.nL - failed) / 2 → t.monitors[line].levels = levels) ∧
      ((lv.nL - failed) / 2 ≤ count → t.monitors[line].levels.length = levels.length ∧
        ∀ i e, levels[i]? = some e →
          (isLive e.state = false → t.monitors[line].levels[i]? = some e) ∧
          (isLive e.state = true →
            (i + 1 ∈ r.protective →
              let state := if lv.pfLimit ≤ e.pfRun + 1 then LevelState.failedNofire else .suspect
              t.monitors[line].levels[i]? =
                some ⟨state, 0, e.pfRun + 1, min 65535 (e.pfTotal + 1), changed e state⟩) ∧
            (i + 1 ∉ r.protective → r.present.getMsbD i = true →
              t.monitors[line].levels[i]? = some ⟨.healthy, 0, 0, e.pfTotal, changed e .healthy⟩) ∧
            (i + 1 ∉ r.protective → r.present.getMsbD i = false →
              let state := if lv.missLimit ≤ e.missRun + 1 then LevelState.failedShort else .suspect
              t.monitors[line].levels[i]? =
                some ⟨state, e.missRun + 1, e.pfRun, e.pfTotal, changed e state⟩))) ∧
      t.monitors[line].missingRun = 0 ∧ t.monitors[line].lost = false ∧
      (t.monitors[line].window = s.monitors[line].window → t.monitors[line].accepted = true) ∧
      let after := t.monitors[line].levels.countP fun e => !isLive e.state
      let noVoltage := decide (count < (lv.nL - failed) / 2)
      (lv.redundancy < after → failed < after →
        (hasSource s.prot.masks .valveTrip = false → isInAction t .valveTrip = true) ∧
        (isInAction s .valveTrip = true → hasSource t.prot.repeats .valveTrip = true) ∧
        (isInAction s .valveTrip = false → hasSource s.prot.masks .valveTrip = false → t.prot.tripLine = true) ∧
        (Settled s → s.prot.inAction = [] → hasSource s.prot.masks .valveTrip = false → s.ctl.state ≠ .precheck →
          StopTaken s t .valveTrip s.now)) ∧
      (¬(lv.redundancy < after ∧ failed < after) → s.ctl.state ≠ .running →
        isInAction s .valveTrip = false → isPending s .valveTrip = false →
        isInAction t .valveTrip = false ∧ isPending t .valveTrip = false) ∧
      (r.window = 0 →
        (noVoltage = true ∨ lv.redundancy < after →
          t.ctl.state = .blocked ∧ t.ctl.precheckTimer = none ∧ t.ctl.ready = Vector.replicate 12 false ∧
          t.cal.orders = [] ∧ (∀ v : Valve, t.gens[v] = generatorOff) ∧
          (s.port.outgoing.length < 32 →
            (s.port.outgoing ++ [.noticeState .precheck .blocked (if noVoltage then .noVoltage else .redundancy)
              (some line) s.now]) <+: t.port.outgoing)) ∧
        (noVoltage = false → after ≤ lv.redundancy → Calm s →
          ((∃ w : Valve, w ≠ line ∧ s.ctl.ready[w] = false) →
            t.ctl = { s.ctl with ready := s.ctl.ready.set line true }) ∧
          ((∀ w : Valve, w ≠ line → s.ctl.ready[w] = true) →
            t.ctl = { s.ctl with
              state := .running
              precheckTimer := none
              ready := Vector.replicate 12 false
              lastY := none
              lastD := none } ∧
            t.acu = { s.acu with aPrev := s.store.setup.angles.alphaStart } ∧
            (∀ v : Valve, t.monitors[v].armed = false) ∧
            (s.port.outgoing.length < 32 →
              (s.port.outgoing ++ [.noticeState .precheck .running .ready none s.now]) <+: t.port.outgoing)))))

/-- An accepted no-voltage record of an armed valve in RUNNING at the inverter makes COMMUTATION_FAIL pending or in action and
counts in the CF run, which at cf_limit falls to 0 with its window stopped and makes VALVE_TRIP pending or in action; the record
of a valve not yet armed counts nothing (R82, R100, R110).
The record comes where the line's receiver is between frames (log 9). -/
def Obligations.CommutationFailureCounts : Prop :=
  ∀ (s : State) (line : Valve) (r : ReturnRecord),
    r.valve = valveNumber line → r.window = s.monitors[line].window → s.monitors[line].accepted = false →
    r.window ≠ 0 → s.ctl.state = .running → setupInRange s.store.setup = true → betweenFrames (.ret line) s = true →
    isNoVoltage s.store.setup.levels.nL r s.monitors[line].levels = true →
    ∃ t, exec (.returnRecord line r) s = .next t ∧
      (s.monitors[line].armed = false → t.prot.cfRun = s.prot.cfRun ∧ t.prot.runWindow = s.prot.runWindow) ∧
      (s.store.setup.role = .rectifier → t.prot.cfRun = s.prot.cfRun ∧ t.prot.runWindow = s.prot.runWindow) ∧
      (s.monitors[line].armed = true → s.store.setup.role = .inverter →
        (isPending t .commutationFail = true ∨ isInAction t .commutationFail = true) ∧
        (s.prot.cfRun + 1 < s.store.setup.guard.cfLimit →
          t.prot.cfRun = s.prot.cfRun + 1 ∧
          t.prot.runWindow = some (s.now + s.store.setup.guard.cfWindow * 10000)) ∧
        (s.store.setup.guard.cfLimit ≤ s.prot.cfRun + 1 →
          t.prot.cfRun = 0 ∧ t.prot.runWindow = none ∧
          (isPending t .valveTrip = true ∨ isInAction t .valveTrip = true)))

/-- A REAPPEAR of its own valve in TRAIN or HOLD emits a main pulse without code and rearms the repeat, counting toward
refire_limit in TRAIN only; in OFF, or for another valve, it changes nothing but the receiver (R66, R67, R162). The refire that
brings the count to refire_limit raises a REFIRE_LIMIT edge: masked it stays pending, in action it sets the repeat mark, and with
nothing in action it is granted and ended TIMED in the same event (R66, R100, R107); no other refire raises one.
The record of the pulse last started on a line is the model's own (log 10).
The record comes where the line's receiver is between frames, and that receiver hunts again (log 9). -/
def Obligations.ReappearRefires : Prop :=
  ∀ (s : State) (line : Valve) (valve : Nat), betweenFrames (.ret line) s = true →
    let g := s.gens[line]
    let v := s.store.setup.angles
    let lit := some (max (g.litUntil.getD 0) (s.now + 100))
    let atLimit := g.mode = .train ∧ g.refires + 1 = v.refireLimit
    let refired := fun (h : Generator) => ∃ t, exec (.reappear line valve) s = .next t ∧
      SameButResolver { frameEnded (.ret line) s with
        gens := s.gens.set line h
        emitters := s.emitters.set line ⟨s.emitters[line].probeUntil, some ⟨.main, s.now, none⟩⟩ } t ∧
      (¬ atLimit → Settled s → t.prot = s.prot ∧ t.port = s.port) ∧
      (atLimit →
        (isInAction s .refireLimit = false → hasSource s.prot.masks .refireLimit = true →
          isPending t .refireLimit = true) ∧
        (isInAction s .refireLimit = true → isPending s .refireLimit = false →
          hasSource t.prot.repeats .refireLimit = true) ∧
        (Settled s → s.prot.inAction = [] → hasSource s.prot.masks .refireLimit = false →
          hasSource s.prot.repeats .refireLimit = false →
          isInAction t .refireLimit = false ∧ isPending t .refireLimit = false ∧
          (s.port.outgoing.length ≤ 30 → t.port.outgoing = s.port.outgoing ++
            [.noticeGrant .refireLimit .alarm s.now, .noticeEnd .refireLimit .timed s.now])))
    (valve ≠ valveNumber line ∨ g.mode = .off →
      exec (.reappear line valve) s = .next (frameEnded (.ret line) s)) ∧
    (valve = valveNumber line → Quiet s →
      (∀ e, g.mode = .train → g.trainEnd = some e →
        refired ⟨.train, some e, if s.now + v.repeatTicks < e then some (s.now + v.repeatTicks) else none,
          if g.refires < v.refireLimit then g.refires + 1 else g.refires, lit⟩) ∧
      (g.mode = .hold →
        refired ⟨.hold, g.trainEnd, some (s.now + v.repeatTicks), g.refires, lit⟩))

/-! ## Calendar and generators -/

/-- The firing of the first entry at its due time removes it, counts it, records it as the newest, advances its valve's window and
sets its bridge's mark; a window other than 0 that closes without an accepted record raises the missing run, at most to 3, where
the monitor is lost (R78); the TEST firing of Y_0 that brings a FIXED run's count to 0 leads to BLOCKED with the test-done flag set,
the rest of the list discarded and its NOTICE_STATE (R49, R55, R56, R77, R126, R130, R117).
Where station time stands when the event is taken is the model's choice (log 2). -/
def Obligations.FiringFiresTheFirstEntry : Prop :=
  ∀ (s : State) (o : Order) (rest : List Order), s.cal.orders = o :: rest → canReach o.due s = true → Quiet s →
    let rec' : FiringRecord := ⟨s.cal.fired + 1, o.valve, o.kind, o.rn, o.due, max s.now o.due, o.angle, o.mu, o.flags⟩
    let counts := o.kind = .test ∧ o.valve = yValve s.store 0
    ∃ t, exec .firing s = .next t ∧ t.now = max s.now o.due ∧
      t.cal.created = s.cal.created ∧ t.cal.fired = s.cal.fired + 1 ∧ t.cal.ring = (rec' :: s.cal.ring).take 64 ∧
      t.monitors[o.valve].window = (if s.monitors[o.valve].window = 65535 then 1 else s.monitors[o.valve].window + 1) ∧
      t.monitors[o.valve].accepted = false ∧
      (s.monitors[o.valve].window = 0 ∨ s.monitors[o.valve].accepted = true →
        t.monitors[o.valve].missingRun = s.monitors[o.valve].missingRun ∧
        t.monitors[o.valve].lost = s.monitors[o.valve].lost) ∧
      (s.monitors[o.valve].window ≠ 0 → s.monitors[o.valve].accepted = false →
        t.monitors[o.valve].missingRun = min 3 (s.monitors[o.valve].missingRun + 1) ∧
        t.monitors[o.valve].lost = (s.monitors[o.valve].lost || decide (2 ≤ s.monitors[o.valve].missingRun))) ∧
      (if isY o.valve = true then t.ctl.lastY = some o.valve else t.ctl.lastD = some o.valve) ∧
      (TestCountInv s → ¬ counts → t.cal.orders = rest ∧ t.cal.discarded = s.cal.discarded ∧
        t.ctl.state = s.ctl.state ∧ t.ctl.remaining = s.ctl.remaining) ∧
      t.pru = s.pru ∧ t.store = s.store ∧ t.meas = s.meas ∧ t.snapshot = s.snapshot ∧
      t.port.requests = s.port.requests ∧ t.acu.active = s.acu.active ∧ t.acu.waiting = s.acu.waiting ∧
      t.acu.aPrev = s.acu.aPrev ∧ t.acu.cfpMargin = s.acu.cfpMargin ∧ t.acu.cfpHold = s.acu.cfpHold ∧
      (∀ v : Valve, v ≠ o.valve → t.monitors[v] = s.monitors[v]) ∧
      (s.ctl.state = .testing → counts → 2 ≤ s.ctl.remaining →
        t.ctl.state = .testing ∧ t.ctl.remaining = s.ctl.remaining - 1 ∧ t.cal.orders = rest) ∧
      (s.ctl.state = .testing → counts → s.ctl.testMode = .continuous → s.ctl.remaining = 1 →
        1 ≤ s.ctl.programmed →
        t.ctl.state = .testing ∧ t.ctl.remaining = s.ctl.programmed ∧ t.ctl.wraps = min 65535 (s.ctl.wraps + 1) ∧
        t.cal.orders = rest) ∧
      (s.ctl.state = .testing → counts → s.ctl.testMode = .fixed → s.ctl.remaining = 1 →
        t.ctl.state = .blocked ∧ t.ctl.testDone = true ∧ t.ctl.remaining = 0 ∧ t.cal.orders = [] ∧
        t.cal.discarded = s.cal.discarded + rest.length ∧ (∀ v : Valve, t.gens[v] = generatorOff) ∧
        (s.port.outgoing.length < 32 →
          (s.port.outgoing ++ [.noticeState .testing .blocked .testDone none (max s.now o.due)]) <+: t.port.outgoing))

/-- The pulse train of a fired valve: a NORMAL or TEST firing starts a TRAIN that ends A(train_cdeg) later at the period standing
then, a BYPASS firing a HOLD without end, each with a main pulse that carries the valve's new window number (R62, R63, R68).
Where station time stands when the event is taken is the model's choice (log 2).
The record of the pulse last started on a line is the model's own (log 10). -/
def Obligations.FiringStartsTrainOrHold : Prop :=
  ∀ (s : State) (o : Order) (rest : List Order), s.cal.orders = o :: rest → canReach o.due s = true → Quiet s →
    TestCountInv s → ¬(o.kind = .test ∧ o.valve = yValve s.store 0) →
    let tf := max s.now o.due
    let v := s.store.setup.angles
    let g := s.gens[o.valve]
    let trainEnd := tf + angleTicks s.pru.p v.trainCdeg
    let lit := some (max (g.litUntil.getD 0) (tf + 100))
    ∃ t, exec .firing s = .next t ∧
      t.gens = s.gens.set o.valve
        (if o.kind = .bypass then ⟨.hold, none, some (tf + v.repeatTicks), 0, lit⟩
        else ⟨.train, some trainEnd, if tf + v.repeatTicks < trainEnd then some (tf + v.repeatTicks) else none, 0, lit⟩) ∧
      t.emitters[o.valve].lastPulse = some ⟨.main, tf, some t.monitors[o.valve].window⟩

/-- A repeat expiry emits a repeat pulse of 40 ticks and arms the next one repeat_ticks later, in TRAIN only when that is earlier
than the train end; a train end puts the generator to OFF; nothing else changes (R64, R65).
Where station time stands when the event is taken is the model's choice (log 2).
The record of the pulse last started on a line is the model's own (log 10). -/
def Obligations.RepeatAndTrainEndExpire : Prop :=
  ∀ (s : State) (v : Valve) (e : Nat), canReach e s = true →
    let g := s.gens[v]
    let next := e + s.store.setup.angles.repeatTicks
    let lit := some (max (g.litUntil.getD 0) (e + 40))
    let pulsed := fun (h : Generator) => exec (.repeatExpiry v) s = .next { s with
      now := max s.now e
      gens := s.gens.set v h
      emitters := s.emitters.set v ⟨s.emitters[v].probeUntil, some ⟨.repeated, e, none⟩⟩ }
    (g.repeatAt = some e →
      (∀ z, g.mode = .train → g.trainEnd = some z →
        pulsed ⟨.train, some z, if next < z then some next else none, g.refires, lit⟩) ∧
      (g.mode = .hold → pulsed ⟨.hold, g.trainEnd, some next, g.refires, lit⟩)) ∧
    (g.trainEnd = some e →
      exec (.trainEnd v) s = .next { s with now := max s.now e, gens := s.gens.set v generatorOff })

/-! ## Timers of the resolver, the controller and the port -/

/-- An action timer's expiry ends its source with cause TIMED: without a repeat mark the source is IDLE, with one it is pending
again or in action; the run window's expiry sets the CF run to 0; neither moves another block of a quiet state (R107, R109,
R110).
Where station time stands when the event is taken is the model's choice (log 2). -/
def Obligations.ResolverTimersExpire : Prop :=
  ∀ (s : State) (e : Nat), Quiet s → Placed s → setupInRange s.store.setup = true → canReach e s = true →
    (∀ src, actionTimer s.prot src = some e → isInAction s src = true →
      ∃ t, exec (.actionTimerExpiry src) s = .next t ∧ SameButResolver { s with now := max s.now e } t ∧
        (s.port.outgoing.length < 32 →
          (s.port.outgoing ++ [.noticeEnd src .timed (max s.now e)]) <+: t.port.outgoing) ∧
        (hasSource s.prot.repeats src = false → isInAction t src = false ∧ isPending t src = false) ∧
        (hasSource s.prot.repeats src = true → src = .commutationFail →
          isInAction t src = true ∨ isPending t src = true)) ∧
    (s.prot.runWindow = some e →
      ∃ t, exec .runWindowExpiry s = .next t ∧ SameButResolver { s with now := max s.now e } t ∧
        t.prot.cfRun = 0 ∧ t.prot.runWindow = none)

/-- The precheck timer's expiry in PRECHECK, and the retard timer's in RETARD, lead to BLOCKED with the calendar discarded, the
generators OFF and the timers stopped, and with the NOTICE_STATE, which for TIMEOUT names the lowest-numbered valve not ready; a
full outgoing list loses it and sets the notice-lost flag (R122, R128, R125, R117, R166).
Where station time stands when the event is taken is the model's choice (log 2). -/
def Obligations.PrecheckAndRetardExpire : Prop :=
  ∀ (s : State) (e : Nat), canReach e s = true →
    let blocked : State := { s with
      now := max s.now e
      ctl := { s.ctl with
        state := .blocked
        precheckTimer := none
        ready := Vector.replicate 12 false
        retardTimer := none }
      acu := { s.acu with testAngle := none }
      cal := { s.cal with orders := [], discarded := s.cal.discarded + s.cal.orders.length }
      gens := Vector.replicate 12 generatorOff }
    let ended := fun (c : Instr) (notice : OutRecord) => ∃ t, exec c s = .next t ∧ SameButResolver blocked t ∧
      (s.port.outgoing.length < 32 → (s.port.outgoing ++ [notice]) <+: t.port.outgoing) ∧
      (32 ≤ s.port.outgoing.length → t.port.outgoing = s.port.outgoing ∧ t.port.noticeLost = true)
    (s.ctl.precheckTimer = some e → s.ctl.state = .precheck →
      Completes .precheckTimerExpiry s blocked ∧
      ∀ v : Valve, s.ctl.ready[v] = false → (∀ w : Valve, w < v → s.ctl.ready[w] = true) →
        ended .precheckTimerExpiry (.noticeState .precheck .blocked .timeout (some v) (max s.now e))) ∧
    (s.ctl.retardTimer = some e → s.ctl.state = .retard →
      ended .retardTimerExpiry (.noticeState .retard .blocked .retardEnd none (max s.now e)))

/-- The link timer's expiry makes the link silent; in a guarded state with nothing in action LINK_LOST is then granted, and its stop
demand takes RUNNING to BYPASS at an inverter and to RETARD at a rectifier, or through RETARD to BLOCKED with a retard_time of 0,
takes PRECHECK, TESTING and TEST_HELD to BLOCKED without the test-done flag, and leaves BYPASS and RETARD, with the notices in
their order. The order timer's expiry leaves it EXPIRED and moves no other block of a quiet state (R168, R169, R104, R127, R128,
R113, R117).
Where station time stands when the event is taken is the model's choice (log 2). -/
def Obligations.LinkAndOrderTimersExpire : Prop :=
  ∀ (s : State) (e : Nat), canReach e s = true →
    (s.port.linkTimer = some e →
      (Unmoved s.ctl.state → Completes .linkTimerExpiry s
        { s with now := max s.now e, port := { s.port with linkTimer := none, linkSilent := true } }) ∧
      (isGuarded s.ctl.state = true → Calm s → s.prot.inAction = [] → hasSource s.prot.masks .linkLost = false →
        ∃ t, exec .linkTimerExpiry s = .next t ∧ t.port.linkSilent = true ∧ t.port.linkTimer = none ∧
          StopTaken s t .linkLost (max s.now e) ∧
          t.ctl.testDone = s.ctl.testDone ∧ t.ctl.remaining = s.ctl.remaining ∧
          (s.ctl.state = .running → s.store.setup.role = .rectifier → 1 ≤ s.store.setup.guard.retardTime →
            t.cal = s.cal))) ∧
    (s.port.orderTimer = some e → Quiet s → Completes .orderTimerExpiry s
      { s with now := max s.now e, port := { s.port with orderTimer := none } })

/-! ## Invariants -/

/-- What the invariants below say holds right after power-on. -/
def Obligations.InvariantsHoldAtReset : Prop :=
  AccountInv State.reset ∧ CalendarInv State.reset ∧ SortedInv State.reset ∧ DarkInv State.reset ∧
    TestCountInv State.reset ∧ PhaseInv State.reset ∧ QueueInv State.reset ∧ StoreInv State.reset ∧
    ResolverInv State.reset

/-- CREATED always equals FIRED + DISCARDED + the number of orders in the calendar (R54). -/
def Obligations.StepKeepsTheAccount : Prop :=
  ∀ s t : State, AccountInv s → step s = .next t → AccountInv t

/-- Every step keeps the list to the kinds of its converter state, to one order for each valve, and in its order (R60, R44, R43). -/
def Obligations.StepKeepsTheCalendar : Prop :=
  ∀ s t : State, CalendarInv s → SortedInv s → step s = .next t → CalendarInv t ∧ SortedInv t

/-- Every step keeps the generators OFF in the dark states, and the remaining count of a test run in its range, given the
calendar's kinds (R71, R130). -/
def Obligations.StepKeepsDarkAndTestCount : Prop :=
  ∀ s t : State, CalendarInv s → DarkInv s → TestCountInv s → step s = .next t → DarkInv t ∧ TestCountInv t

/-- Every step keeps P within its limits, k in 0..5, and UNLOCKED without prediction, kind and counts (R5, R10, R11, R12). -/
def Obligations.StepKeepsThePhase : Prop :=
  ∀ s t : State, PhaseInv s → step s = .next t → PhaseInv t

/-- Every step keeps the request queue within 8 frames, the outgoing list within 32 records and the ring within 64 (R163, R166,
R56). -/
def Obligations.StepKeepsTheQueues : Prop :=
  ∀ s t : State, QueueInv s → step s = .next t → QueueInv t

/-- Every step keeps the setup values in their ranges, the step in 0..5, N_L levels for each valve, the entries of the Commutation
Table in 0..9,000 and each valve of a bridge once in the Valve Map (R140, R139, R91, R144, R145). -/
def Obligations.StepKeepsTheStore : Prop :=
  ∀ s t : State, StoreInv s → step s = .next t → StoreInv t

/-- Every step leaves the resolver with its conditions in step and nothing to grant, each source in one position, NESTED actions
in rising priority, and the trip line with VALVE_TRIP (R99, R101, R102, R103, R106). -/
def Obligations.StepSettlesTheResolver : Prop :=
  ∀ s t : State, ResolverInv s → step s = .next t → ResolverInv t
end

