-- ==== Sys2Proof/Laws/State.lean ====
section
/-! SUPPORT. One lemma per field per update: a named update of the state leaves every field that it does not write. -/

namespace Sys2Proof.Machine

variable (s : State)

/-! ### atTime -/
@[simp] theorem atTime_pru (t : Nat) : (atTime t s).pru = s.pru := rfl
@[simp] theorem atTime_acu (t : Nat) : (atTime t s).acu = s.acu := rfl
@[simp] theorem atTime_cal (t : Nat) : (atTime t s).cal = s.cal := rfl
@[simp] theorem atTime_gens (t : Nat) : (atTime t s).gens = s.gens := rfl
@[simp] theorem atTime_emitters (t : Nat) : (atTime t s).emitters = s.emitters := rfl
@[simp] theorem atTime_monitors (t : Nat) : (atTime t s).monitors = s.monitors := rfl
@[simp] theorem atTime_snapshot (t : Nat) : (atTime t s).snapshot = s.snapshot := rfl
@[simp] theorem atTime_prot (t : Nat) : (atTime t s).prot = s.prot := rfl
@[simp] theorem atTime_ctl (t : Nat) : (atTime t s).ctl = s.ctl := rfl
@[simp] theorem atTime_store (t : Nat) : (atTime t s).store = s.store := rfl
@[simp] theorem atTime_meas (t : Nat) : (atTime t s).meas = s.meas := rfl
@[simp] theorem atTime_port (t : Nat) : (atTime t s).port = s.port := rfl
@[simp] theorem atTime_receivers (t : Nat) : (atTime t s).receivers = s.receivers := rfl
@[simp] theorem atTime_pending (t : Nat) : (atTime t s).pending = s.pending := rfl

/-! ### appendRecord -/
@[simp] theorem appendRecord_now (r : OutRecord) : (appendRecord r s).now = s.now := rfl
@[simp] theorem appendRecord_pru (r : OutRecord) : (appendRecord r s).pru = s.pru := rfl
@[simp] theorem appendRecord_acu (r : OutRecord) : (appendRecord r s).acu = s.acu := rfl
@[simp] theorem appendRecord_cal (r : OutRecord) : (appendRecord r s).cal = s.cal := rfl
@[simp] theorem appendRecord_gens (r : OutRecord) : (appendRecord r s).gens = s.gens := rfl
@[simp] theorem appendRecord_emitters (r : OutRecord) : (appendRecord r s).emitters = s.emitters := rfl
@[simp] theorem appendRecord_monitors (r : OutRecord) : (appendRecord r s).monitors = s.monitors := rfl
@[simp] theorem appendRecord_snapshot (r : OutRecord) : (appendRecord r s).snapshot = s.snapshot := rfl
@[simp] theorem appendRecord_prot (r : OutRecord) : (appendRecord r s).prot = s.prot := rfl
@[simp] theorem appendRecord_ctl (r : OutRecord) : (appendRecord r s).ctl = s.ctl := rfl
@[simp] theorem appendRecord_store (r : OutRecord) : (appendRecord r s).store = s.store := rfl
@[simp] theorem appendRecord_meas (r : OutRecord) : (appendRecord r s).meas = s.meas := rfl
@[simp] theorem appendRecord_receivers (r : OutRecord) : (appendRecord r s).receivers = s.receivers := rfl
@[simp] theorem appendRecord_pending (r : OutRecord) : (appendRecord r s).pending = s.pending := rfl

/-! ### dropSent -/
@[simp] theorem dropSent_now : (dropSent s).now = s.now := rfl
@[simp] theorem dropSent_pru : (dropSent s).pru = s.pru := rfl
@[simp] theorem dropSent_acu : (dropSent s).acu = s.acu := rfl
@[simp] theorem dropSent_cal : (dropSent s).cal = s.cal := rfl
@[simp] theorem dropSent_gens : (dropSent s).gens = s.gens := rfl
@[simp] theorem dropSent_emitters : (dropSent s).emitters = s.emitters := rfl
@[simp] theorem dropSent_monitors : (dropSent s).monitors = s.monitors := rfl
@[simp] theorem dropSent_snapshot : (dropSent s).snapshot = s.snapshot := rfl
@[simp] theorem dropSent_prot : (dropSent s).prot = s.prot := rfl
@[simp] theorem dropSent_ctl : (dropSent s).ctl = s.ctl := rfl
@[simp] theorem dropSent_store : (dropSent s).store = s.store := rfl
@[simp] theorem dropSent_meas : (dropSent s).meas = s.meas := rfl
@[simp] theorem dropSent_receivers : (dropSent s).receivers = s.receivers := rfl
@[simp] theorem dropSent_pending : (dropSent s).pending = s.pending := rfl

/-! ### reply -/
@[simp] theorem reply_now (k : RequestKind) (tag : Nat) (c : Completion) (x : Content) : (reply k tag c x s).now = s.now := rfl
@[simp] theorem reply_pru (k : RequestKind) (tag : Nat) (c : Completion) (x : Content) : (reply k tag c x s).pru = s.pru := rfl
@[simp] theorem reply_acu (k : RequestKind) (tag : Nat) (c : Completion) (x : Content) : (reply k tag c x s).acu = s.acu := rfl
@[simp] theorem reply_cal (k : RequestKind) (tag : Nat) (c : Completion) (x : Content) : (reply k tag c x s).cal = s.cal := rfl
@[simp] theorem reply_gens (k : RequestKind) (tag : Nat) (c : Completion) (x : Content) : (reply k tag c x s).gens = s.gens := rfl
@[simp] theorem reply_emitters (k : RequestKind) (tag : Nat) (c : Completion) (x : Content) : (reply k tag c x s).emitters = s.emitters := rfl
@[simp] theorem reply_monitors (k : RequestKind) (tag : Nat) (c : Completion) (x : Content) : (reply k tag c x s).monitors = s.monitors := rfl
@[simp] theorem reply_snapshot (k : RequestKind) (tag : Nat) (c : Completion) (x : Content) : (reply k tag c x s).snapshot = s.snapshot := rfl
@[simp] theorem reply_prot (k : RequestKind) (tag : Nat) (c : Completion) (x : Content) : (reply k tag c x s).prot = s.prot := rfl
@[simp] theorem reply_ctl (k : RequestKind) (tag : Nat) (c : Completion) (x : Content) : (reply k tag c x s).ctl = s.ctl := rfl
@[simp] theorem reply_store (k : RequestKind) (tag : Nat) (c : Completion) (x : Content) : (reply k tag c x s).store = s.store := rfl
@[simp] theorem reply_meas (k : RequestKind) (tag : Nat) (c : Completion) (x : Content) : (reply k tag c x s).meas = s.meas := rfl
@[simp] theorem reply_receivers (k : RequestKind) (tag : Nat) (c : Completion) (x : Content) : (reply k tag c x s).receivers = s.receivers := rfl
@[simp] theorem reply_pending (k : RequestKind) (tag : Nat) (c : Completion) (x : Content) : (reply k tag c x s).pending = s.pending := rfl

/-! ### accept -/
@[simp] theorem accept_now (k : RequestKind) (tag : Nat) : (accept k tag s).now = s.now := rfl
@[simp] theorem accept_pru (k : RequestKind) (tag : Nat) : (accept k tag s).pru = s.pru := rfl
@[simp] theorem accept_acu (k : RequestKind) (tag : Nat) : (accept k tag s).acu = s.acu := rfl
@[simp] theorem accept_cal (k : RequestKind) (tag : Nat) : (accept k tag s).cal = s.cal := rfl
@[simp] theorem accept_gens (k : RequestKind) (tag : Nat) : (accept k tag s).gens = s.gens := rfl
@[simp] theorem accept_emitters (k : RequestKind) (tag : Nat) : (accept k tag s).emitters = s.emitters := rfl
@[simp] theorem accept_monitors (k : RequestKind) (tag : Nat) : (accept k tag s).monitors = s.monitors := rfl
@[simp] theorem accept_snapshot (k : RequestKind) (tag : Nat) : (accept k tag s).snapshot = s.snapshot := rfl
@[simp] theorem accept_prot (k : RequestKind) (tag : Nat) : (accept k tag s).prot = s.prot := rfl
@[simp] theorem accept_ctl (k : RequestKind) (tag : Nat) : (accept k tag s).ctl = s.ctl := rfl
@[simp] theorem accept_store (k : RequestKind) (tag : Nat) : (accept k tag s).store = s.store := rfl
@[simp] theorem accept_meas (k : RequestKind) (tag : Nat) : (accept k tag s).meas = s.meas := rfl
@[simp] theorem accept_receivers (k : RequestKind) (tag : Nat) : (accept k tag s).receivers = s.receivers := rfl
@[simp] theorem accept_pending (k : RequestKind) (tag : Nat) : (accept k tag s).pending = s.pending := rfl

/-! ### refuse -/
@[simp] theorem refuse_now (k : RequestKind) (tag : Nat) (c : Completion) : (refuse k tag c s).now = s.now := rfl
@[simp] theorem refuse_pru (k : RequestKind) (tag : Nat) (c : Completion) : (refuse k tag c s).pru = s.pru := rfl
@[simp] theorem refuse_acu (k : RequestKind) (tag : Nat) (c : Completion) : (refuse k tag c s).acu = s.acu := rfl
@[simp] theorem refuse_cal (k : RequestKind) (tag : Nat) (c : Completion) : (refuse k tag c s).cal = s.cal := rfl
@[simp] theorem refuse_gens (k : RequestKind) (tag : Nat) (c : Completion) : (refuse k tag c s).gens = s.gens := rfl
@[simp] theorem refuse_emitters (k : RequestKind) (tag : Nat) (c : Completion) : (refuse k tag c s).emitters = s.emitters := rfl
@[simp] theorem refuse_monitors (k : RequestKind) (tag : Nat) (c : Completion) : (refuse k tag c s).monitors = s.monitors := rfl
@[simp] theorem refuse_snapshot (k : RequestKind) (tag : Nat) (c : Completion) : (refuse k tag c s).snapshot = s.snapshot := rfl
@[simp] theorem refuse_prot (k : RequestKind) (tag : Nat) (c : Completion) : (refuse k tag c s).prot = s.prot := rfl
@[simp] theorem refuse_ctl (k : RequestKind) (tag : Nat) (c : Completion) : (refuse k tag c s).ctl = s.ctl := rfl
@[simp] theorem refuse_store (k : RequestKind) (tag : Nat) (c : Completion) : (refuse k tag c s).store = s.store := rfl
@[simp] theorem refuse_meas (k : RequestKind) (tag : Nat) (c : Completion) : (refuse k tag c s).meas = s.meas := rfl
@[simp] theorem refuse_receivers (k : RequestKind) (tag : Nat) (c : Completion) : (refuse k tag c s).receivers = s.receivers := rfl
@[simp] theorem refuse_pending (k : RequestKind) (tag : Nat) (c : Completion) : (refuse k tag c s).pending = s.pending := rfl

/-! ### frameEnded -/
@[simp] theorem frameEnded_now (line : Line) : (frameEnded line s).now = s.now := rfl
@[simp] theorem frameEnded_pru (line : Line) : (frameEnded line s).pru = s.pru := rfl
@[simp] theorem frameEnded_acu (line : Line) : (frameEnded line s).acu = s.acu := rfl
@[simp] theorem frameEnded_cal (line : Line) : (frameEnded line s).cal = s.cal := rfl
@[simp] theorem frameEnded_gens (line : Line) : (frameEnded line s).gens = s.gens := rfl
@[simp] theorem frameEnded_emitters (line : Line) : (frameEnded line s).emitters = s.emitters := rfl
@[simp] theorem frameEnded_monitors (line : Line) : (frameEnded line s).monitors = s.monitors := rfl
@[simp] theorem frameEnded_snapshot (line : Line) : (frameEnded line s).snapshot = s.snapshot := rfl
@[simp] theorem frameEnded_prot (line : Line) : (frameEnded line s).prot = s.prot := rfl
@[simp] theorem frameEnded_ctl (line : Line) : (frameEnded line s).ctl = s.ctl := rfl
@[simp] theorem frameEnded_store (line : Line) : (frameEnded line s).store = s.store := rfl
@[simp] theorem frameEnded_meas (line : Line) : (frameEnded line s).meas = s.meas := rfl
@[simp] theorem frameEnded_port (line : Line) : (frameEnded line s).port = s.port := rfl
@[simp] theorem frameEnded_pending (line : Line) : (frameEnded line s).pending = s.pending := rfl

/-! ### setGenerator -/
@[simp] theorem setGenerator_now (v : Valve) (g : Generator) : (setGenerator v g s).now = s.now := rfl
@[simp] theorem setGenerator_pru (v : Valve) (g : Generator) : (setGenerator v g s).pru = s.pru := rfl
@[simp] theorem setGenerator_acu (v : Valve) (g : Generator) : (setGenerator v g s).acu = s.acu := rfl
@[simp] theorem setGenerator_cal (v : Valve) (g : Generator) : (setGenerator v g s).cal = s.cal := rfl
@[simp] theorem setGenerator_emitters (v : Valve) (g : Generator) : (setGenerator v g s).emitters = s.emitters := rfl
@[simp] theorem setGenerator_monitors (v : Valve) (g : Generator) : (setGenerator v g s).monitors = s.monitors := rfl
@[simp] theorem setGenerator_snapshot (v : Valve) (g : Generator) : (setGenerator v g s).snapshot = s.snapshot := rfl
@[simp] theorem setGenerator_prot (v : Valve) (g : Generator) : (setGenerator v g s).prot = s.prot := rfl
@[simp] theorem setGenerator_ctl (v : Valve) (g : Generator) : (setGenerator v g s).ctl = s.ctl := rfl
@[simp] theorem setGenerator_store (v : Valve) (g : Generator) : (setGenerator v g s).store = s.store := rfl
@[simp] theorem setGenerator_meas (v : Valve) (g : Generator) : (setGenerator v g s).meas = s.meas := rfl
@[simp] theorem setGenerator_port (v : Valve) (g : Generator) : (setGenerator v g s).port = s.port := rfl
@[simp] theorem setGenerator_receivers (v : Valve) (g : Generator) : (setGenerator v g s).receivers = s.receivers := rfl
@[simp] theorem setGenerator_pending (v : Valve) (g : Generator) : (setGenerator v g s).pending = s.pending := rfl

/-! ### emitPulse -/
@[simp] theorem emitPulse_now (v : Valve) (p : Pulse) : (emitPulse v p s).now = s.now := rfl
@[simp] theorem emitPulse_pru (v : Valve) (p : Pulse) : (emitPulse v p s).pru = s.pru := rfl
@[simp] theorem emitPulse_acu (v : Valve) (p : Pulse) : (emitPulse v p s).acu = s.acu := rfl
@[simp] theorem emitPulse_cal (v : Valve) (p : Pulse) : (emitPulse v p s).cal = s.cal := rfl
@[simp] theorem emitPulse_gens (v : Valve) (p : Pulse) : (emitPulse v p s).gens = s.gens := rfl
@[simp] theorem emitPulse_monitors (v : Valve) (p : Pulse) : (emitPulse v p s).monitors = s.monitors := rfl
@[simp] theorem emitPulse_snapshot (v : Valve) (p : Pulse) : (emitPulse v p s).snapshot = s.snapshot := rfl
@[simp] theorem emitPulse_prot (v : Valve) (p : Pulse) : (emitPulse v p s).prot = s.prot := rfl
@[simp] theorem emitPulse_ctl (v : Valve) (p : Pulse) : (emitPulse v p s).ctl = s.ctl := rfl
@[simp] theorem emitPulse_store (v : Valve) (p : Pulse) : (emitPulse v p s).store = s.store := rfl
@[simp] theorem emitPulse_meas (v : Valve) (p : Pulse) : (emitPulse v p s).meas = s.meas := rfl
@[simp] theorem emitPulse_port (v : Valve) (p : Pulse) : (emitPulse v p s).port = s.port := rfl
@[simp] theorem emitPulse_receivers (v : Valve) (p : Pulse) : (emitPulse v p s).receivers = s.receivers := rfl
@[simp] theorem emitPulse_pending (v : Valve) (p : Pulse) : (emitPulse v p s).pending = s.pending := rfl

/-! ### generatorsOff -/
@[simp] theorem generatorsOff_now : (generatorsOff s).now = s.now := rfl
@[simp] theorem generatorsOff_pru : (generatorsOff s).pru = s.pru := rfl
@[simp] theorem generatorsOff_acu : (generatorsOff s).acu = s.acu := rfl
@[simp] theorem generatorsOff_cal : (generatorsOff s).cal = s.cal := rfl
@[simp] theorem generatorsOff_emitters : (generatorsOff s).emitters = s.emitters := rfl
@[simp] theorem generatorsOff_monitors : (generatorsOff s).monitors = s.monitors := rfl
@[simp] theorem generatorsOff_snapshot : (generatorsOff s).snapshot = s.snapshot := rfl
@[simp] theorem generatorsOff_prot : (generatorsOff s).prot = s.prot := rfl
@[simp] theorem generatorsOff_ctl : (generatorsOff s).ctl = s.ctl := rfl
@[simp] theorem generatorsOff_store : (generatorsOff s).store = s.store := rfl
@[simp] theorem generatorsOff_meas : (generatorsOff s).meas = s.meas := rfl
@[simp] theorem generatorsOff_port : (generatorsOff s).port = s.port := rfl
@[simp] theorem generatorsOff_receivers : (generatorsOff s).receivers = s.receivers := rfl
@[simp] theorem generatorsOff_pending : (generatorsOff s).pending = s.pending := rfl

/-! ### generatorsOffExcept -/
@[simp] theorem generatorsOffExcept_now (keep : List Valve) : (generatorsOffExcept keep s).now = s.now := rfl
@[simp] theorem generatorsOffExcept_pru (keep : List Valve) : (generatorsOffExcept keep s).pru = s.pru := rfl
@[simp] theorem generatorsOffExcept_acu (keep : List Valve) : (generatorsOffExcept keep s).acu = s.acu := rfl
@[simp] theorem generatorsOffExcept_cal (keep : List Valve) : (generatorsOffExcept keep s).cal = s.cal := rfl
@[simp] theorem generatorsOffExcept_emitters (keep : List Valve) : (generatorsOffExcept keep s).emitters = s.emitters := rfl
@[simp] theorem generatorsOffExcept_monitors (keep : List Valve) : (generatorsOffExcept keep s).monitors = s.monitors := rfl
@[simp] theorem generatorsOffExcept_snapshot (keep : List Valve) : (generatorsOffExcept keep s).snapshot = s.snapshot := rfl
@[simp] theorem generatorsOffExcept_prot (keep : List Valve) : (generatorsOffExcept keep s).prot = s.prot := rfl
@[simp] theorem generatorsOffExcept_ctl (keep : List Valve) : (generatorsOffExcept keep s).ctl = s.ctl := rfl
@[simp] theorem generatorsOffExcept_store (keep : List Valve) : (generatorsOffExcept keep s).store = s.store := rfl
@[simp] theorem generatorsOffExcept_meas (keep : List Valve) : (generatorsOffExcept keep s).meas = s.meas := rfl
@[simp] theorem generatorsOffExcept_port (keep : List Valve) : (generatorsOffExcept keep s).port = s.port := rfl
@[simp] theorem generatorsOffExcept_receivers (keep : List Valve) : (generatorsOffExcept keep s).receivers = s.receivers := rfl
@[simp] theorem generatorsOffExcept_pending (keep : List Valve) : (generatorsOffExcept keep s).pending = s.pending := rfl

/-! ### holdsToTrains -/
@[simp] theorem holdsToTrains_now : (holdsToTrains s).now = s.now := rfl
@[simp] theorem holdsToTrains_pru : (holdsToTrains s).pru = s.pru := rfl
@[simp] theorem holdsToTrains_acu : (holdsToTrains s).acu = s.acu := rfl
@[simp] theorem holdsToTrains_cal : (holdsToTrains s).cal = s.cal := rfl
@[simp] theorem holdsToTrains_emitters : (holdsToTrains s).emitters = s.emitters := rfl
@[simp] theorem holdsToTrains_monitors : (holdsToTrains s).monitors = s.monitors := rfl
@[simp] theorem holdsToTrains_snapshot : (holdsToTrains s).snapshot = s.snapshot := rfl
@[simp] theorem holdsToTrains_prot : (holdsToTrains s).prot = s.prot := rfl
@[simp] theorem holdsToTrains_ctl : (holdsToTrains s).ctl = s.ctl := rfl
@[simp] theorem holdsToTrains_store : (holdsToTrains s).store = s.store := rfl
@[simp] theorem holdsToTrains_meas : (holdsToTrains s).meas = s.meas := rfl
@[simp] theorem holdsToTrains_port : (holdsToTrains s).port = s.port := rfl
@[simp] theorem holdsToTrains_receivers : (holdsToTrains s).receivers = s.receivers := rfl
@[simp] theorem holdsToTrains_pending : (holdsToTrains s).pending = s.pending := rfl

/-! ### probeAll -/
@[simp] theorem probeAll_now : (probeAll s).now = s.now := rfl
@[simp] theorem probeAll_pru : (probeAll s).pru = s.pru := rfl
@[simp] theorem probeAll_acu : (probeAll s).acu = s.acu := rfl
@[simp] theorem probeAll_cal : (probeAll s).cal = s.cal := rfl
@[simp] theorem probeAll_gens : (probeAll s).gens = s.gens := rfl
@[simp] theorem probeAll_monitors : (probeAll s).monitors = s.monitors := rfl
@[simp] theorem probeAll_snapshot : (probeAll s).snapshot = s.snapshot := rfl
@[simp] theorem probeAll_prot : (probeAll s).prot = s.prot := rfl
@[simp] theorem probeAll_ctl : (probeAll s).ctl = s.ctl := rfl
@[simp] theorem probeAll_store : (probeAll s).store = s.store := rfl
@[simp] theorem probeAll_meas : (probeAll s).meas = s.meas := rfl
@[simp] theorem probeAll_port : (probeAll s).port = s.port := rfl
@[simp] theorem probeAll_receivers : (probeAll s).receivers = s.receivers := rfl
@[simp] theorem probeAll_pending : (probeAll s).pending = s.pending := rfl

/-! ### pulseFiring -/
@[simp] theorem pulseFiring_now (v : Valve) (k : OrderKind) (c : Nat) : (pulseFiring v k c s).now = s.now := rfl
@[simp] theorem pulseFiring_pru (v : Valve) (k : OrderKind) (c : Nat) : (pulseFiring v k c s).pru = s.pru := rfl
@[simp] theorem pulseFiring_acu (v : Valve) (k : OrderKind) (c : Nat) : (pulseFiring v k c s).acu = s.acu := rfl
@[simp] theorem pulseFiring_cal (v : Valve) (k : OrderKind) (c : Nat) : (pulseFiring v k c s).cal = s.cal := rfl
@[simp] theorem pulseFiring_monitors (v : Valve) (k : OrderKind) (c : Nat) : (pulseFiring v k c s).monitors = s.monitors := rfl
@[simp] theorem pulseFiring_snapshot (v : Valve) (k : OrderKind) (c : Nat) : (pulseFiring v k c s).snapshot = s.snapshot := rfl
@[simp] theorem pulseFiring_prot (v : Valve) (k : OrderKind) (c : Nat) : (pulseFiring v k c s).prot = s.prot := rfl
@[simp] theorem pulseFiring_ctl (v : Valve) (k : OrderKind) (c : Nat) : (pulseFiring v k c s).ctl = s.ctl := rfl
@[simp] theorem pulseFiring_store (v : Valve) (k : OrderKind) (c : Nat) : (pulseFiring v k c s).store = s.store := rfl
@[simp] theorem pulseFiring_meas (v : Valve) (k : OrderKind) (c : Nat) : (pulseFiring v k c s).meas = s.meas := rfl
@[simp] theorem pulseFiring_port (v : Valve) (k : OrderKind) (c : Nat) : (pulseFiring v k c s).port = s.port := rfl
@[simp] theorem pulseFiring_receivers (v : Valve) (k : OrderKind) (c : Nat) : (pulseFiring v k c s).receivers = s.receivers := rfl
@[simp] theorem pulseFiring_pending (v : Valve) (k : OrderKind) (c : Nat) : (pulseFiring v k c s).pending = s.pending := rfl

/-! ### setMonitor -/
@[simp] theorem setMonitor_now (v : Valve) (m : ValveMonitor) : (setMonitor v m s).now = s.now := rfl
@[simp] theorem setMonitor_pru (v : Valve) (m : ValveMonitor) : (setMonitor v m s).pru = s.pru := rfl
@[simp] theorem setMonitor_acu (v : Valve) (m : ValveMonitor) : (setMonitor v m s).acu = s.acu := rfl
@[simp] theorem setMonitor_cal (v : Valve) (m : ValveMonitor) : (setMonitor v m s).cal = s.cal := rfl
@[simp] theorem setMonitor_gens (v : Valve) (m : ValveMonitor) : (setMonitor v m s).gens = s.gens := rfl
@[simp] theorem setMonitor_emitters (v : Valve) (m : ValveMonitor) : (setMonitor v m s).emitters = s.emitters := rfl
@[simp] theorem setMonitor_snapshot (v : Valve) (m : ValveMonitor) : (setMonitor v m s).snapshot = s.snapshot := rfl
@[simp] theorem setMonitor_prot (v : Valve) (m : ValveMonitor) : (setMonitor v m s).prot = s.prot := rfl
@[simp] theorem setMonitor_ctl (v : Valve) (m : ValveMonitor) : (setMonitor v m s).ctl = s.ctl := rfl
@[simp] theorem setMonitor_store (v : Valve) (m : ValveMonitor) : (setMonitor v m s).store = s.store := rfl
@[simp] theorem setMonitor_meas (v : Valve) (m : ValveMonitor) : (setMonitor v m s).meas = s.meas := rfl
@[simp] theorem setMonitor_port (v : Valve) (m : ValveMonitor) : (setMonitor v m s).port = s.port := rfl
@[simp] theorem setMonitor_receivers (v : Valve) (m : ValveMonitor) : (setMonitor v m s).receivers = s.receivers := rfl
@[simp] theorem setMonitor_pending (v : Valve) (m : ValveMonitor) : (setMonitor v m s).pending = s.pending := rfl

/-! ### windowFiring -/
@[simp] theorem windowFiring_now (v : Valve) : (windowFiring v s).now = s.now := rfl
@[simp] theorem windowFiring_pru (v : Valve) : (windowFiring v s).pru = s.pru := rfl
@[simp] theorem windowFiring_acu (v : Valve) : (windowFiring v s).acu = s.acu := rfl
@[simp] theorem windowFiring_cal (v : Valve) : (windowFiring v s).cal = s.cal := rfl
@[simp] theorem windowFiring_gens (v : Valve) : (windowFiring v s).gens = s.gens := rfl
@[simp] theorem windowFiring_emitters (v : Valve) : (windowFiring v s).emitters = s.emitters := rfl
@[simp] theorem windowFiring_snapshot (v : Valve) : (windowFiring v s).snapshot = s.snapshot := rfl
@[simp] theorem windowFiring_prot (v : Valve) : (windowFiring v s).prot = s.prot := rfl
@[simp] theorem windowFiring_ctl (v : Valve) : (windowFiring v s).ctl = s.ctl := rfl
@[simp] theorem windowFiring_store (v : Valve) : (windowFiring v s).store = s.store := rfl
@[simp] theorem windowFiring_meas (v : Valve) : (windowFiring v s).meas = s.meas := rfl
@[simp] theorem windowFiring_port (v : Valve) : (windowFiring v s).port = s.port := rfl
@[simp] theorem windowFiring_receivers (v : Valve) : (windowFiring v s).receivers = s.receivers := rfl
@[simp] theorem windowFiring_pending (v : Valve) : (windowFiring v s).pending = s.pending := rfl

/-! ### resetWindows -/
@[simp] theorem resetWindows_now : (resetWindows s).now = s.now := rfl
@[simp] theorem resetWindows_pru : (resetWindows s).pru = s.pru := rfl
@[simp] theorem resetWindows_acu : (resetWindows s).acu = s.acu := rfl
@[simp] theorem resetWindows_cal : (resetWindows s).cal = s.cal := rfl
@[simp] theorem resetWindows_gens : (resetWindows s).gens = s.gens := rfl
@[simp] theorem resetWindows_emitters : (resetWindows s).emitters = s.emitters := rfl
@[simp] theorem resetWindows_snapshot : (resetWindows s).snapshot = s.snapshot := rfl
@[simp] theorem resetWindows_prot : (resetWindows s).prot = s.prot := rfl
@[simp] theorem resetWindows_ctl : (resetWindows s).ctl = s.ctl := rfl
@[simp] theorem resetWindows_store : (resetWindows s).store = s.store := rfl
@[simp] theorem resetWindows_meas : (resetWindows s).meas = s.meas := rfl
@[simp] theorem resetWindows_port : (resetWindows s).port = s.port := rfl
@[simp] theorem resetWindows_receivers : (resetWindows s).receivers = s.receivers := rfl
@[simp] theorem resetWindows_pending : (resetWindows s).pending = s.pending := rfl

/-! ### clearArmed -/
@[simp] theorem clearArmed_now : (clearArmed s).now = s.now := rfl
@[simp] theorem clearArmed_pru : (clearArmed s).pru = s.pru := rfl
@[simp] theorem clearArmed_acu : (clearArmed s).acu = s.acu := rfl
@[simp] theorem clearArmed_cal : (clearArmed s).cal = s.cal := rfl
@[simp] theorem clearArmed_gens : (clearArmed s).gens = s.gens := rfl
@[simp] theorem clearArmed_emitters : (clearArmed s).emitters = s.emitters := rfl
@[simp] theorem clearArmed_snapshot : (clearArmed s).snapshot = s.snapshot := rfl
@[simp] theorem clearArmed_prot : (clearArmed s).prot = s.prot := rfl
@[simp] theorem clearArmed_ctl : (clearArmed s).ctl = s.ctl := rfl
@[simp] theorem clearArmed_store : (clearArmed s).store = s.store := rfl
@[simp] theorem clearArmed_meas : (clearArmed s).meas = s.meas := rfl
@[simp] theorem clearArmed_port : (clearArmed s).port = s.port := rfl
@[simp] theorem clearArmed_receivers : (clearArmed s).receivers = s.receivers := rfl
@[simp] theorem clearArmed_pending : (clearArmed s).pending = s.pending := rfl

/-! ### formTable -/
@[simp] theorem formTable_now (n : Nat) : (formTable n s).now = s.now := rfl
@[simp] theorem formTable_pru (n : Nat) : (formTable n s).pru = s.pru := rfl
@[simp] theorem formTable_acu (n : Nat) : (formTable n s).acu = s.acu := rfl
@[simp] theorem formTable_cal (n : Nat) : (formTable n s).cal = s.cal := rfl
@[simp] theorem formTable_gens (n : Nat) : (formTable n s).gens = s.gens := rfl
@[simp] theorem formTable_emitters (n : Nat) : (formTable n s).emitters = s.emitters := rfl
@[simp] theorem formTable_snapshot (n : Nat) : (formTable n s).snapshot = s.snapshot := rfl
@[simp] theorem formTable_prot (n : Nat) : (formTable n s).prot = s.prot := rfl
@[simp] theorem formTable_ctl (n : Nat) : (formTable n s).ctl = s.ctl := rfl
@[simp] theorem formTable_store (n : Nat) : (formTable n s).store = s.store := rfl
@[simp] theorem formTable_meas (n : Nat) : (formTable n s).meas = s.meas := rfl
@[simp] theorem formTable_port (n : Nat) : (formTable n s).port = s.port := rfl
@[simp] theorem formTable_receivers (n : Nat) : (formTable n s).receivers = s.receivers := rfl
@[simp] theorem formTable_pending (n : Nat) : (formTable n s).pending = s.pending := rfl

/-! ### countFiring -/
@[simp] theorem countFiring_now (o : Order) : (countFiring o s).now = s.now := rfl
@[simp] theorem countFiring_pru (o : Order) : (countFiring o s).pru = s.pru := rfl
@[simp] theorem countFiring_acu (o : Order) : (countFiring o s).acu = s.acu := rfl
@[simp] theorem countFiring_gens (o : Order) : (countFiring o s).gens = s.gens := rfl
@[simp] theorem countFiring_emitters (o : Order) : (countFiring o s).emitters = s.emitters := rfl
@[simp] theorem countFiring_monitors (o : Order) : (countFiring o s).monitors = s.monitors := rfl
@[simp] theorem countFiring_snapshot (o : Order) : (countFiring o s).snapshot = s.snapshot := rfl
@[simp] theorem countFiring_prot (o : Order) : (countFiring o s).prot = s.prot := rfl
@[simp] theorem countFiring_ctl (o : Order) : (countFiring o s).ctl = s.ctl := rfl
@[simp] theorem countFiring_store (o : Order) : (countFiring o s).store = s.store := rfl
@[simp] theorem countFiring_meas (o : Order) : (countFiring o s).meas = s.meas := rfl
@[simp] theorem countFiring_port (o : Order) : (countFiring o s).port = s.port := rfl
@[simp] theorem countFiring_receivers (o : Order) : (countFiring o s).receivers = s.receivers := rfl
@[simp] theorem countFiring_pending (o : Order) : (countFiring o s).pending = s.pending := rfl

/-! ### enterOrder -/
@[simp] theorem enterOrder_now (o : Order) : (enterOrder o s).now = s.now := rfl
@[simp] theorem enterOrder_pru (o : Order) : (enterOrder o s).pru = s.pru := rfl
@[simp] theorem enterOrder_acu (o : Order) : (enterOrder o s).acu = s.acu := rfl
@[simp] theorem enterOrder_gens (o : Order) : (enterOrder o s).gens = s.gens := rfl
@[simp] theorem enterOrder_emitters (o : Order) : (enterOrder o s).emitters = s.emitters := rfl
@[simp] theorem enterOrder_monitors (o : Order) : (enterOrder o s).monitors = s.monitors := rfl
@[simp] theorem enterOrder_snapshot (o : Order) : (enterOrder o s).snapshot = s.snapshot := rfl
@[simp] theorem enterOrder_prot (o : Order) : (enterOrder o s).prot = s.prot := rfl
@[simp] theorem enterOrder_ctl (o : Order) : (enterOrder o s).ctl = s.ctl := rfl
@[simp] theorem enterOrder_store (o : Order) : (enterOrder o s).store = s.store := rfl
@[simp] theorem enterOrder_meas (o : Order) : (enterOrder o s).meas = s.meas := rfl
@[simp] theorem enterOrder_port (o : Order) : (enterOrder o s).port = s.port := rfl
@[simp] theorem enterOrder_receivers (o : Order) : (enterOrder o s).receivers = s.receivers := rfl
@[simp] theorem enterOrder_pending (o : Order) : (enterOrder o s).pending = s.pending := rfl

/-! ### discardAll -/
@[simp] theorem discardAll_now : (discardAll s).now = s.now := rfl
@[simp] theorem discardAll_pru : (discardAll s).pru = s.pru := rfl
@[simp] theorem discardAll_acu : (discardAll s).acu = s.acu := rfl
@[simp] theorem discardAll_gens : (discardAll s).gens = s.gens := rfl
@[simp] theorem discardAll_emitters : (discardAll s).emitters = s.emitters := rfl
@[simp] theorem discardAll_monitors : (discardAll s).monitors = s.monitors := rfl
@[simp] theorem discardAll_snapshot : (discardAll s).snapshot = s.snapshot := rfl
@[simp] theorem discardAll_prot : (discardAll s).prot = s.prot := rfl
@[simp] theorem discardAll_ctl : (discardAll s).ctl = s.ctl := rfl
@[simp] theorem discardAll_store : (discardAll s).store = s.store := rfl
@[simp] theorem discardAll_meas : (discardAll s).meas = s.meas := rfl
@[simp] theorem discardAll_port : (discardAll s).port = s.port := rfl
@[simp] theorem discardAll_receivers : (discardAll s).receivers = s.receivers := rfl
@[simp] theorem discardAll_pending : (discardAll s).pending = s.pending := rfl

/-! ### discardNormal -/
@[simp] theorem discardNormal_now : (discardNormal s).now = s.now := rfl
@[simp] theorem discardNormal_pru : (discardNormal s).pru = s.pru := rfl
@[simp] theorem discardNormal_acu : (discardNormal s).acu = s.acu := rfl
@[simp] theorem discardNormal_gens : (discardNormal s).gens = s.gens := rfl
@[simp] theorem discardNormal_emitters : (discardNormal s).emitters = s.emitters := rfl
@[simp] theorem discardNormal_monitors : (discardNormal s).monitors = s.monitors := rfl
@[simp] theorem discardNormal_snapshot : (discardNormal s).snapshot = s.snapshot := rfl
@[simp] theorem discardNormal_prot : (discardNormal s).prot = s.prot := rfl
@[simp] theorem discardNormal_ctl : (discardNormal s).ctl = s.ctl := rfl
@[simp] theorem discardNormal_store : (discardNormal s).store = s.store := rfl
@[simp] theorem discardNormal_meas : (discardNormal s).meas = s.meas := rfl
@[simp] theorem discardNormal_port : (discardNormal s).port = s.port := rfl
@[simp] theorem discardNormal_receivers : (discardNormal s).receivers = s.receivers := rfl
@[simp] theorem discardNormal_pending : (discardNormal s).pending = s.pending := rfl

/-! ### makePending -/
@[simp] theorem makePending_now (src : Source) : (makePending src s).now = s.now := rfl
@[simp] theorem makePending_pru (src : Source) : (makePending src s).pru = s.pru := rfl
@[simp] theorem makePending_acu (src : Source) : (makePending src s).acu = s.acu := rfl
@[simp] theorem makePending_cal (src : Source) : (makePending src s).cal = s.cal := rfl
@[simp] theorem makePending_gens (src : Source) : (makePending src s).gens = s.gens := rfl
@[simp] theorem makePending_emitters (src : Source) : (makePending src s).emitters = s.emitters := rfl
@[simp] theorem makePending_monitors (src : Source) : (makePending src s).monitors = s.monitors := rfl
@[simp] theorem makePending_snapshot (src : Source) : (makePending src s).snapshot = s.snapshot := rfl
@[simp] theorem makePending_ctl (src : Source) : (makePending src s).ctl = s.ctl := rfl
@[simp] theorem makePending_store (src : Source) : (makePending src s).store = s.store := rfl
@[simp] theorem makePending_meas (src : Source) : (makePending src s).meas = s.meas := rfl
@[simp] theorem makePending_port (src : Source) : (makePending src s).port = s.port := rfl
@[simp] theorem makePending_receivers (src : Source) : (makePending src s).receivers = s.receivers := rfl
@[simp] theorem makePending_pending (src : Source) : (makePending src s).pending = s.pending := rfl

/-! ### withdraw -/
@[simp] theorem withdraw_now (src : Source) : (withdraw src s).now = s.now := rfl
@[simp] theorem withdraw_pru (src : Source) : (withdraw src s).pru = s.pru := rfl
@[simp] theorem withdraw_acu (src : Source) : (withdraw src s).acu = s.acu := rfl
@[simp] theorem withdraw_cal (src : Source) : (withdraw src s).cal = s.cal := rfl
@[simp] theorem withdraw_gens (src : Source) : (withdraw src s).gens = s.gens := rfl
@[simp] theorem withdraw_emitters (src : Source) : (withdraw src s).emitters = s.emitters := rfl
@[simp] theorem withdraw_monitors (src : Source) : (withdraw src s).monitors = s.monitors := rfl
@[simp] theorem withdraw_snapshot (src : Source) : (withdraw src s).snapshot = s.snapshot := rfl
@[simp] theorem withdraw_ctl (src : Source) : (withdraw src s).ctl = s.ctl := rfl
@[simp] theorem withdraw_store (src : Source) : (withdraw src s).store = s.store := rfl
@[simp] theorem withdraw_meas (src : Source) : (withdraw src s).meas = s.meas := rfl
@[simp] theorem withdraw_port (src : Source) : (withdraw src s).port = s.port := rfl
@[simp] theorem withdraw_receivers (src : Source) : (withdraw src s).receivers = s.receivers := rfl
@[simp] theorem withdraw_pending (src : Source) : (withdraw src s).pending = s.pending := rfl

/-! ### stopAction -/
@[simp] theorem stopAction_now (src : Source) : (stopAction src s).now = s.now := rfl
@[simp] theorem stopAction_pru (src : Source) : (stopAction src s).pru = s.pru := rfl
@[simp] theorem stopAction_acu (src : Source) : (stopAction src s).acu = s.acu := rfl
@[simp] theorem stopAction_cal (src : Source) : (stopAction src s).cal = s.cal := rfl
@[simp] theorem stopAction_gens (src : Source) : (stopAction src s).gens = s.gens := rfl
@[simp] theorem stopAction_emitters (src : Source) : (stopAction src s).emitters = s.emitters := rfl
@[simp] theorem stopAction_monitors (src : Source) : (stopAction src s).monitors = s.monitors := rfl
@[simp] theorem stopAction_snapshot (src : Source) : (stopAction src s).snapshot = s.snapshot := rfl
@[simp] theorem stopAction_ctl (src : Source) : (stopAction src s).ctl = s.ctl := rfl
@[simp] theorem stopAction_store (src : Source) : (stopAction src s).store = s.store := rfl
@[simp] theorem stopAction_meas (src : Source) : (stopAction src s).meas = s.meas := rfl
@[simp] theorem stopAction_port (src : Source) : (stopAction src s).port = s.port := rfl
@[simp] theorem stopAction_receivers (src : Source) : (stopAction src s).receivers = s.receivers := rfl
@[simp] theorem stopAction_pending (src : Source) : (stopAction src s).pending = s.pending := rfl

/-! ### takeAngle -/
@[simp] theorem takeAngle_now (a : Nat) : (takeAngle a s).now = s.now := rfl
@[simp] theorem takeAngle_pru (a : Nat) : (takeAngle a s).pru = s.pru := rfl
@[simp] theorem takeAngle_cal (a : Nat) : (takeAngle a s).cal = s.cal := rfl
@[simp] theorem takeAngle_gens (a : Nat) : (takeAngle a s).gens = s.gens := rfl
@[simp] theorem takeAngle_emitters (a : Nat) : (takeAngle a s).emitters = s.emitters := rfl
@[simp] theorem takeAngle_monitors (a : Nat) : (takeAngle a s).monitors = s.monitors := rfl
@[simp] theorem takeAngle_snapshot (a : Nat) : (takeAngle a s).snapshot = s.snapshot := rfl
@[simp] theorem takeAngle_prot (a : Nat) : (takeAngle a s).prot = s.prot := rfl
@[simp] theorem takeAngle_ctl (a : Nat) : (takeAngle a s).ctl = s.ctl := rfl
@[simp] theorem takeAngle_store (a : Nat) : (takeAngle a s).store = s.store := rfl
@[simp] theorem takeAngle_meas (a : Nat) : (takeAngle a s).meas = s.meas := rfl
@[simp] theorem takeAngle_port (a : Nat) : (takeAngle a s).port = s.port := rfl
@[simp] theorem takeAngle_receivers (a : Nat) : (takeAngle a s).receivers = s.receivers := rfl
@[simp] theorem takeAngle_pending (a : Nat) : (takeAngle a s).pending = s.pending := rfl

/-! ### rebaseApplyPoint -/
@[simp] theorem rebaseApplyPoint_now : (rebaseApplyPoint s).now = s.now := rfl
@[simp] theorem rebaseApplyPoint_pru : (rebaseApplyPoint s).pru = s.pru := rfl
@[simp] theorem rebaseApplyPoint_cal : (rebaseApplyPoint s).cal = s.cal := rfl
@[simp] theorem rebaseApplyPoint_gens : (rebaseApplyPoint s).gens = s.gens := rfl
@[simp] theorem rebaseApplyPoint_emitters : (rebaseApplyPoint s).emitters = s.emitters := rfl
@[simp] theorem rebaseApplyPoint_monitors : (rebaseApplyPoint s).monitors = s.monitors := rfl
@[simp] theorem rebaseApplyPoint_snapshot : (rebaseApplyPoint s).snapshot = s.snapshot := rfl
@[simp] theorem rebaseApplyPoint_prot : (rebaseApplyPoint s).prot = s.prot := rfl
@[simp] theorem rebaseApplyPoint_ctl : (rebaseApplyPoint s).ctl = s.ctl := rfl
@[simp] theorem rebaseApplyPoint_store : (rebaseApplyPoint s).store = s.store := rfl
@[simp] theorem rebaseApplyPoint_meas : (rebaseApplyPoint s).meas = s.meas := rfl
@[simp] theorem rebaseApplyPoint_port : (rebaseApplyPoint s).port = s.port := rfl
@[simp] theorem rebaseApplyPoint_receivers : (rebaseApplyPoint s).receivers = s.receivers := rfl
@[simp] theorem rebaseApplyPoint_pending : (rebaseApplyPoint s).pending = s.pending := rfl

/-! ### holdMargin -/
@[simp] theorem holdMargin_now : (holdMargin s).now = s.now := rfl
@[simp] theorem holdMargin_pru : (holdMargin s).pru = s.pru := rfl
@[simp] theorem holdMargin_cal : (holdMargin s).cal = s.cal := rfl
@[simp] theorem holdMargin_gens : (holdMargin s).gens = s.gens := rfl
@[simp] theorem holdMargin_emitters : (holdMargin s).emitters = s.emitters := rfl
@[simp] theorem holdMargin_monitors : (holdMargin s).monitors = s.monitors := rfl
@[simp] theorem holdMargin_snapshot : (holdMargin s).snapshot = s.snapshot := rfl
@[simp] theorem holdMargin_prot : (holdMargin s).prot = s.prot := rfl
@[simp] theorem holdMargin_ctl : (holdMargin s).ctl = s.ctl := rfl
@[simp] theorem holdMargin_store : (holdMargin s).store = s.store := rfl
@[simp] theorem holdMargin_meas : (holdMargin s).meas = s.meas := rfl
@[simp] theorem holdMargin_port : (holdMargin s).port = s.port := rfl
@[simp] theorem holdMargin_receivers : (holdMargin s).receivers = s.receivers := rfl
@[simp] theorem holdMargin_pending : (holdMargin s).pending = s.pending := rfl

/-! ### forceMargin -/
@[simp] theorem forceMargin_now : (forceMargin s).now = s.now := rfl
@[simp] theorem forceMargin_pru : (forceMargin s).pru = s.pru := rfl
@[simp] theorem forceMargin_cal : (forceMargin s).cal = s.cal := rfl
@[simp] theorem forceMargin_gens : (forceMargin s).gens = s.gens := rfl
@[simp] theorem forceMargin_emitters : (forceMargin s).emitters = s.emitters := rfl
@[simp] theorem forceMargin_monitors : (forceMargin s).monitors = s.monitors := rfl
@[simp] theorem forceMargin_snapshot : (forceMargin s).snapshot = s.snapshot := rfl
@[simp] theorem forceMargin_prot : (forceMargin s).prot = s.prot := rfl
@[simp] theorem forceMargin_ctl : (forceMargin s).ctl = s.ctl := rfl
@[simp] theorem forceMargin_store : (forceMargin s).store = s.store := rfl
@[simp] theorem forceMargin_meas : (forceMargin s).meas = s.meas := rfl
@[simp] theorem forceMargin_port : (forceMargin s).port = s.port := rfl
@[simp] theorem forceMargin_receivers : (forceMargin s).receivers = s.receivers := rfl
@[simp] theorem forceMargin_pending : (forceMargin s).pending = s.pending := rfl

/-! ### leavePrecheck -/
@[simp] theorem leavePrecheck_now : (leavePrecheck s).now = s.now := rfl
@[simp] theorem leavePrecheck_pru : (leavePrecheck s).pru = s.pru := rfl
@[simp] theorem leavePrecheck_acu : (leavePrecheck s).acu = s.acu := rfl
@[simp] theorem leavePrecheck_cal : (leavePrecheck s).cal = s.cal := rfl
@[simp] theorem leavePrecheck_gens : (leavePrecheck s).gens = s.gens := rfl
@[simp] theorem leavePrecheck_emitters : (leavePrecheck s).emitters = s.emitters := rfl
@[simp] theorem leavePrecheck_monitors : (leavePrecheck s).monitors = s.monitors := rfl
@[simp] theorem leavePrecheck_snapshot : (leavePrecheck s).snapshot = s.snapshot := rfl
@[simp] theorem leavePrecheck_prot : (leavePrecheck s).prot = s.prot := rfl
@[simp] theorem leavePrecheck_store : (leavePrecheck s).store = s.store := rfl
@[simp] theorem leavePrecheck_meas : (leavePrecheck s).meas = s.meas := rfl
@[simp] theorem leavePrecheck_port : (leavePrecheck s).port = s.port := rfl
@[simp] theorem leavePrecheck_receivers : (leavePrecheck s).receivers = s.receivers := rfl
@[simp] theorem leavePrecheck_pending : (leavePrecheck s).pending = s.pending := rfl

/-! ### restartPhase -/
@[simp] theorem restartPhase_now : (restartPhase s).now = s.now := rfl
@[simp] theorem restartPhase_cal : (restartPhase s).cal = s.cal := rfl
@[simp] theorem restartPhase_gens : (restartPhase s).gens = s.gens := rfl
@[simp] theorem restartPhase_emitters : (restartPhase s).emitters = s.emitters := rfl
@[simp] theorem restartPhase_monitors : (restartPhase s).monitors = s.monitors := rfl
@[simp] theorem restartPhase_snapshot : (restartPhase s).snapshot = s.snapshot := rfl
@[simp] theorem restartPhase_prot : (restartPhase s).prot = s.prot := rfl
@[simp] theorem restartPhase_ctl : (restartPhase s).ctl = s.ctl := rfl
@[simp] theorem restartPhase_store : (restartPhase s).store = s.store := rfl
@[simp] theorem restartPhase_meas : (restartPhase s).meas = s.meas := rfl
@[simp] theorem restartPhase_port : (restartPhase s).port = s.port := rfl
@[simp] theorem restartPhase_receivers : (restartPhase s).receivers = s.receivers := rfl
@[simp] theorem restartPhase_pending : (restartPhase s).pending = s.pending := rfl

/-! ### closeSequence -/
@[simp] theorem closeSequence_now : (closeSequence s).now = s.now := rfl
@[simp] theorem closeSequence_pru : (closeSequence s).pru = s.pru := rfl
@[simp] theorem closeSequence_acu : (closeSequence s).acu = s.acu := rfl
@[simp] theorem closeSequence_cal : (closeSequence s).cal = s.cal := rfl
@[simp] theorem closeSequence_gens : (closeSequence s).gens = s.gens := rfl
@[simp] theorem closeSequence_emitters : (closeSequence s).emitters = s.emitters := rfl
@[simp] theorem closeSequence_monitors : (closeSequence s).monitors = s.monitors := rfl
@[simp] theorem closeSequence_snapshot : (closeSequence s).snapshot = s.snapshot := rfl
@[simp] theorem closeSequence_prot : (closeSequence s).prot = s.prot := rfl
@[simp] theorem closeSequence_ctl : (closeSequence s).ctl = s.ctl := rfl
@[simp] theorem closeSequence_meas : (closeSequence s).meas = s.meas := rfl
@[simp] theorem closeSequence_port : (closeSequence s).port = s.port := rfl
@[simp] theorem closeSequence_receivers : (closeSequence s).receivers = s.receivers := rfl
@[simp] theorem closeSequence_pending : (closeSequence s).pending = s.pending := rfl

/-! ### restartOrderTimer -/
@[simp] theorem restartOrderTimer_now : (restartOrderTimer s).now = s.now := rfl
@[simp] theorem restartOrderTimer_pru : (restartOrderTimer s).pru = s.pru := rfl
@[simp] theorem restartOrderTimer_acu : (restartOrderTimer s).acu = s.acu := rfl
@[simp] theorem restartOrderTimer_cal : (restartOrderTimer s).cal = s.cal := rfl
@[simp] theorem restartOrderTimer_gens : (restartOrderTimer s).gens = s.gens := rfl
@[simp] theorem restartOrderTimer_emitters : (restartOrderTimer s).emitters = s.emitters := rfl
@[simp] theorem restartOrderTimer_monitors : (restartOrderTimer s).monitors = s.monitors := rfl
@[simp] theorem restartOrderTimer_snapshot : (restartOrderTimer s).snapshot = s.snapshot := rfl
@[simp] theorem restartOrderTimer_prot : (restartOrderTimer s).prot = s.prot := rfl
@[simp] theorem restartOrderTimer_ctl : (restartOrderTimer s).ctl = s.ctl := rfl
@[simp] theorem restartOrderTimer_store : (restartOrderTimer s).store = s.store := rfl
@[simp] theorem restartOrderTimer_meas : (restartOrderTimer s).meas = s.meas := rfl
@[simp] theorem restartOrderTimer_receivers : (restartOrderTimer s).receivers = s.receivers := rfl
@[simp] theorem restartOrderTimer_pending : (restartOrderTimer s).pending = s.pending := rfl

/-! ### withSetup -/
@[simp] theorem withSetup_now (v : Setup) : (withSetup v s).now = s.now := rfl
@[simp] theorem withSetup_pru (v : Setup) : (withSetup v s).pru = s.pru := rfl
@[simp] theorem withSetup_acu (v : Setup) : (withSetup v s).acu = s.acu := rfl
@[simp] theorem withSetup_cal (v : Setup) : (withSetup v s).cal = s.cal := rfl
@[simp] theorem withSetup_gens (v : Setup) : (withSetup v s).gens = s.gens := rfl
@[simp] theorem withSetup_emitters (v : Setup) : (withSetup v s).emitters = s.emitters := rfl
@[simp] theorem withSetup_monitors (v : Setup) : (withSetup v s).monitors = s.monitors := rfl
@[simp] theorem withSetup_snapshot (v : Setup) : (withSetup v s).snapshot = s.snapshot := rfl
@[simp] theorem withSetup_prot (v : Setup) : (withSetup v s).prot = s.prot := rfl
@[simp] theorem withSetup_ctl (v : Setup) : (withSetup v s).ctl = s.ctl := rfl
@[simp] theorem withSetup_meas (v : Setup) : (withSetup v s).meas = s.meas := rfl
@[simp] theorem withSetup_port (v : Setup) : (withSetup v s).port = s.port := rfl
@[simp] theorem withSetup_receivers (v : Setup) : (withSetup v s).receivers = s.receivers := rfl
@[simp] theorem withSetup_pending (v : Setup) : (withSetup v s).pending = s.pending := rfl

/-! ### withStep -/
@[simp] theorem withStep_now (n : Nat) : (withStep n s).now = s.now := rfl
@[simp] theorem withStep_pru (n : Nat) : (withStep n s).pru = s.pru := rfl
@[simp] theorem withStep_acu (n : Nat) : (withStep n s).acu = s.acu := rfl
@[simp] theorem withStep_cal (n : Nat) : (withStep n s).cal = s.cal := rfl
@[simp] theorem withStep_gens (n : Nat) : (withStep n s).gens = s.gens := rfl
@[simp] theorem withStep_emitters (n : Nat) : (withStep n s).emitters = s.emitters := rfl
@[simp] theorem withStep_monitors (n : Nat) : (withStep n s).monitors = s.monitors := rfl
@[simp] theorem withStep_snapshot (n : Nat) : (withStep n s).snapshot = s.snapshot := rfl
@[simp] theorem withStep_prot (n : Nat) : (withStep n s).prot = s.prot := rfl
@[simp] theorem withStep_ctl (n : Nat) : (withStep n s).ctl = s.ctl := rfl
@[simp] theorem withStep_meas (n : Nat) : (withStep n s).meas = s.meas := rfl
@[simp] theorem withStep_port (n : Nat) : (withStep n s).port = s.port := rfl
@[simp] theorem withStep_receivers (n : Nat) : (withStep n s).receivers = s.receivers := rfl
@[simp] theorem withStep_pending (n : Nat) : (withStep n s).pending = s.pending := rfl

/-! ### touchLink -/
@[simp] theorem touchLink_now : (touchLink s).now = s.now := rfl
@[simp] theorem touchLink_pru : (touchLink s).pru = s.pru := rfl
@[simp] theorem touchLink_acu : (touchLink s).acu = s.acu := rfl
@[simp] theorem touchLink_cal : (touchLink s).cal = s.cal := rfl
@[simp] theorem touchLink_gens : (touchLink s).gens = s.gens := rfl
@[simp] theorem touchLink_emitters : (touchLink s).emitters = s.emitters := rfl
@[simp] theorem touchLink_monitors : (touchLink s).monitors = s.monitors := rfl
@[simp] theorem touchLink_snapshot : (touchLink s).snapshot = s.snapshot := rfl
@[simp] theorem touchLink_prot : (touchLink s).prot = s.prot := rfl
@[simp] theorem touchLink_ctl : (touchLink s).ctl = s.ctl := rfl
@[simp] theorem touchLink_store : (touchLink s).store = s.store := rfl
@[simp] theorem touchLink_meas : (touchLink s).meas = s.meas := rfl
@[simp] theorem touchLink_receivers : (touchLink s).receivers = s.receivers := rfl
@[simp] theorem touchLink_pending : (touchLink s).pending = s.pending := rfl

/-! ### silenceLink -/
@[simp] theorem silenceLink_now : (silenceLink s).now = s.now := rfl
@[simp] theorem silenceLink_pru : (silenceLink s).pru = s.pru := rfl
@[simp] theorem silenceLink_acu : (silenceLink s).acu = s.acu := rfl
@[simp] theorem silenceLink_cal : (silenceLink s).cal = s.cal := rfl
@[simp] theorem silenceLink_gens : (silenceLink s).gens = s.gens := rfl
@[simp] theorem silenceLink_emitters : (silenceLink s).emitters = s.emitters := rfl
@[simp] theorem silenceLink_monitors : (silenceLink s).monitors = s.monitors := rfl
@[simp] theorem silenceLink_snapshot : (silenceLink s).snapshot = s.snapshot := rfl
@[simp] theorem silenceLink_prot : (silenceLink s).prot = s.prot := rfl
@[simp] theorem silenceLink_ctl : (silenceLink s).ctl = s.ctl := rfl
@[simp] theorem silenceLink_store : (silenceLink s).store = s.store := rfl
@[simp] theorem silenceLink_meas : (silenceLink s).meas = s.meas := rfl
@[simp] theorem silenceLink_receivers : (silenceLink s).receivers = s.receivers := rfl
@[simp] theorem silenceLink_pending : (silenceLink s).pending = s.pending := rfl

/-! ### expireOrder -/
@[simp] theorem expireOrder_now : (expireOrder s).now = s.now := rfl
@[simp] theorem expireOrder_pru : (expireOrder s).pru = s.pru := rfl
@[simp] theorem expireOrder_acu : (expireOrder s).acu = s.acu := rfl
@[simp] theorem expireOrder_cal : (expireOrder s).cal = s.cal := rfl
@[simp] theorem expireOrder_gens : (expireOrder s).gens = s.gens := rfl
@[simp] theorem expireOrder_emitters : (expireOrder s).emitters = s.emitters := rfl
@[simp] theorem expireOrder_monitors : (expireOrder s).monitors = s.monitors := rfl
@[simp] theorem expireOrder_snapshot : (expireOrder s).snapshot = s.snapshot := rfl
@[simp] theorem expireOrder_prot : (expireOrder s).prot = s.prot := rfl
@[simp] theorem expireOrder_ctl : (expireOrder s).ctl = s.ctl := rfl
@[simp] theorem expireOrder_store : (expireOrder s).store = s.store := rfl
@[simp] theorem expireOrder_meas : (expireOrder s).meas = s.meas := rfl
@[simp] theorem expireOrder_receivers : (expireOrder s).receivers = s.receivers := rfl
@[simp] theorem expireOrder_pending : (expireOrder s).pending = s.pending := rfl

/-! ### markAccepted -/
@[simp] theorem markAccepted_now (v : Valve) : (markAccepted v s).now = s.now := rfl
@[simp] theorem markAccepted_pru (v : Valve) : (markAccepted v s).pru = s.pru := rfl
@[simp] theorem markAccepted_acu (v : Valve) : (markAccepted v s).acu = s.acu := rfl
@[simp] theorem markAccepted_cal (v : Valve) : (markAccepted v s).cal = s.cal := rfl
@[simp] theorem markAccepted_gens (v : Valve) : (markAccepted v s).gens = s.gens := rfl
@[simp] theorem markAccepted_emitters (v : Valve) : (markAccepted v s).emitters = s.emitters := rfl
@[simp] theorem markAccepted_snapshot (v : Valve) : (markAccepted v s).snapshot = s.snapshot := rfl
@[simp] theorem markAccepted_prot (v : Valve) : (markAccepted v s).prot = s.prot := rfl
@[simp] theorem markAccepted_ctl (v : Valve) : (markAccepted v s).ctl = s.ctl := rfl
@[simp] theorem markAccepted_store (v : Valve) : (markAccepted v s).store = s.store := rfl
@[simp] theorem markAccepted_meas (v : Valve) : (markAccepted v s).meas = s.meas := rfl
@[simp] theorem markAccepted_port (v : Valve) : (markAccepted v s).port = s.port := rfl
@[simp] theorem markAccepted_receivers (v : Valve) : (markAccepted v s).receivers = s.receivers := rfl
@[simp] theorem markAccepted_pending (v : Valve) : (markAccepted v s).pending = s.pending := rfl

/-! ### joinReady -/
@[simp] theorem joinReady_now (v : Valve) : (joinReady v s).now = s.now := rfl
@[simp] theorem joinReady_pru (v : Valve) : (joinReady v s).pru = s.pru := rfl
@[simp] theorem joinReady_acu (v : Valve) : (joinReady v s).acu = s.acu := rfl
@[simp] theorem joinReady_cal (v : Valve) : (joinReady v s).cal = s.cal := rfl
@[simp] theorem joinReady_gens (v : Valve) : (joinReady v s).gens = s.gens := rfl
@[simp] theorem joinReady_emitters (v : Valve) : (joinReady v s).emitters = s.emitters := rfl
@[simp] theorem joinReady_monitors (v : Valve) : (joinReady v s).monitors = s.monitors := rfl
@[simp] theorem joinReady_snapshot (v : Valve) : (joinReady v s).snapshot = s.snapshot := rfl
@[simp] theorem joinReady_prot (v : Valve) : (joinReady v s).prot = s.prot := rfl
@[simp] theorem joinReady_store (v : Valve) : (joinReady v s).store = s.store := rfl
@[simp] theorem joinReady_meas (v : Valve) : (joinReady v s).meas = s.meas := rfl
@[simp] theorem joinReady_port (v : Valve) : (joinReady v s).port = s.port := rfl
@[simp] theorem joinReady_receivers (v : Valve) : (joinReady v s).receivers = s.receivers := rfl
@[simp] theorem joinReady_pending (v : Valve) : (joinReady v s).pending = s.pending := rfl

/-! ### notify -/
@[simp] theorem notify_now (r : OutRecord) : (notify r s).now = s.now := by
  unfold notify; split <;> rfl
@[simp] theorem notify_pru (r : OutRecord) : (notify r s).pru = s.pru := by
  unfold notify; split <;> rfl
@[simp] theorem notify_acu (r : OutRecord) : (notify r s).acu = s.acu := by
  unfold notify; split <;> rfl
@[simp] theorem notify_cal (r : OutRecord) : (notify r s).cal = s.cal := by
  unfold notify; split <;> rfl
@[simp] theorem notify_gens (r : OutRecord) : (notify r s).gens = s.gens := by
  unfold notify; split <;> rfl
@[simp] theorem notify_emitters (r : OutRecord) : (notify r s).emitters = s.emitters := by
  unfold notify; split <;> rfl
@[simp] theorem notify_monitors (r : OutRecord) : (notify r s).monitors = s.monitors := by
  unfold notify; split <;> rfl
@[simp] theorem notify_snapshot (r : OutRecord) : (notify r s).snapshot = s.snapshot := by
  unfold notify; split <;> rfl
@[simp] theorem notify_prot (r : OutRecord) : (notify r s).prot = s.prot := by
  unfold notify; split <;> rfl
@[simp] theorem notify_ctl (r : OutRecord) : (notify r s).ctl = s.ctl := by
  unfold notify; split <;> rfl
@[simp] theorem notify_store (r : OutRecord) : (notify r s).store = s.store := by
  unfold notify; split <;> rfl
@[simp] theorem notify_meas (r : OutRecord) : (notify r s).meas = s.meas := by
  unfold notify; split <;> rfl
@[simp] theorem notify_receivers (r : OutRecord) : (notify r s).receivers = s.receivers := by
  unfold notify; split <;> rfl
@[simp] theorem notify_pending (r : OutRecord) : (notify r s).pending = s.pending := by
  unfold notify; split <;> rfl

/-! ### markFired -/
@[simp] theorem markFired_now (v : Valve) : (markFired v s).now = s.now := by
  unfold markFired; split <;> rfl
@[simp] theorem markFired_pru (v : Valve) : (markFired v s).pru = s.pru := by
  unfold markFired; split <;> rfl
@[simp] theorem markFired_acu (v : Valve) : (markFired v s).acu = s.acu := by
  unfold markFired; split <;> rfl
@[simp] theorem markFired_cal (v : Valve) : (markFired v s).cal = s.cal := by
  unfold markFired; split <;> rfl
@[simp] theorem markFired_gens (v : Valve) : (markFired v s).gens = s.gens := by
  unfold markFired; split <;> rfl
@[simp] theorem markFired_emitters (v : Valve) : (markFired v s).emitters = s.emitters := by
  unfold markFired; split <;> rfl
@[simp] theorem markFired_monitors (v : Valve) : (markFired v s).monitors = s.monitors := by
  unfold markFired; split <;> rfl
@[simp] theorem markFired_snapshot (v : Valve) : (markFired v s).snapshot = s.snapshot := by
  unfold markFired; split <;> rfl
@[simp] theorem markFired_prot (v : Valve) : (markFired v s).prot = s.prot := by
  unfold markFired; split <;> rfl
@[simp] theorem markFired_store (v : Valve) : (markFired v s).store = s.store := by
  unfold markFired; split <;> rfl
@[simp] theorem markFired_meas (v : Valve) : (markFired v s).meas = s.meas := by
  unfold markFired; split <;> rfl
@[simp] theorem markFired_port (v : Valve) : (markFired v s).port = s.port := by
  unfold markFired; split <;> rfl
@[simp] theorem markFired_receivers (v : Valve) : (markFired v s).receivers = s.receivers := by
  unfold markFired; split <;> rfl
@[simp] theorem markFired_pending (v : Valve) : (markFired v s).pending = s.pending := by
  unfold markFired; split <;> rfl

/-! ### countTest -/
@[simp] theorem countTest_now (o : Order) : (countTest o s).now = s.now := by
  unfold countTest; dsimp only; split
  · split <;> rfl
  · rfl
@[simp] theorem countTest_pru (o : Order) : (countTest o s).pru = s.pru := by
  unfold countTest; dsimp only; split
  · split <;> rfl
  · rfl
@[simp] theorem countTest_acu (o : Order) : (countTest o s).acu = s.acu := by
  unfold countTest; dsimp only; split
  · split <;> rfl
  · rfl
@[simp] theorem countTest_cal (o : Order) : (countTest o s).cal = s.cal := by
  unfold countTest; dsimp only; split
  · split <;> rfl
  · rfl
@[simp] theorem countTest_gens (o : Order) : (countTest o s).gens = s.gens := by
  unfold countTest; dsimp only; split
  · split <;> rfl
  · rfl
@[simp] theorem countTest_emitters (o : Order) : (countTest o s).emitters = s.emitters := by
  unfold countTest; dsimp only; split
  · split <;> rfl
  · rfl
@[simp] theorem countTest_monitors (o : Order) : (countTest o s).monitors = s.monitors := by
  unfold countTest; dsimp only; split
  · split <;> rfl
  · rfl
@[simp] theorem countTest_snapshot (o : Order) : (countTest o s).snapshot = s.snapshot := by
  unfold countTest; dsimp only; split
  · split <;> rfl
  · rfl
@[simp] theorem countTest_prot (o : Order) : (countTest o s).prot = s.prot := by
  unfold countTest; dsimp only; split
  · split <;> rfl
  · rfl
@[simp] theorem countTest_store (o : Order) : (countTest o s).store = s.store := by
  unfold countTest; dsimp only; split
  · split <;> rfl
  · rfl
@[simp] theorem countTest_meas (o : Order) : (countTest o s).meas = s.meas := by
  unfold countTest; dsimp only; split
  · split <;> rfl
  · rfl
@[simp] theorem countTest_port (o : Order) : (countTest o s).port = s.port := by
  unfold countTest; dsimp only; split
  · split <;> rfl
  · rfl
@[simp] theorem countTest_receivers (o : Order) : (countTest o s).receivers = s.receivers := by
  unfold countTest; dsimp only; split
  · split <;> rfl
  · rfl
@[simp] theorem countTest_pending (o : Order) : (countTest o s).pending = s.pending := by
  unfold countTest; dsimp only; split
  · split <;> rfl
  · rfl

/-! ### raiseEdge -/
@[simp] theorem raiseEdge_now (src : Source) : (raiseEdge src s).now = s.now := by
  unfold raiseEdge; split <;> rfl
@[simp] theorem raiseEdge_pru (src : Source) : (raiseEdge src s).pru = s.pru := by
  unfold raiseEdge; split <;> rfl
@[simp] theorem raiseEdge_acu (src : Source) : (raiseEdge src s).acu = s.acu := by
  unfold raiseEdge; split <;> rfl
@[simp] theorem raiseEdge_cal (src : Source) : (raiseEdge src s).cal = s.cal := by
  unfold raiseEdge; split <;> rfl
@[simp] theorem raiseEdge_gens (src : Source) : (raiseEdge src s).gens = s.gens := by
  unfold raiseEdge; split <;> rfl
@[simp] theorem raiseEdge_emitters (src : Source) : (raiseEdge src s).emitters = s.emitters := by
  unfold raiseEdge; split <;> rfl
@[simp] theorem raiseEdge_monitors (src : Source) : (raiseEdge src s).monitors = s.monitors := by
  unfold raiseEdge; split <;> rfl
@[simp] theorem raiseEdge_snapshot (src : Source) : (raiseEdge src s).snapshot = s.snapshot := by
  unfold raiseEdge; split <;> rfl
@[simp] theorem raiseEdge_ctl (src : Source) : (raiseEdge src s).ctl = s.ctl := by
  unfold raiseEdge; split <;> rfl
@[simp] theorem raiseEdge_store (src : Source) : (raiseEdge src s).store = s.store := by
  unfold raiseEdge; split <;> rfl
@[simp] theorem raiseEdge_meas (src : Source) : (raiseEdge src s).meas = s.meas := by
  unfold raiseEdge; split <;> rfl
@[simp] theorem raiseEdge_port (src : Source) : (raiseEdge src s).port = s.port := by
  unfold raiseEdge; split <;> rfl
@[simp] theorem raiseEdge_receivers (src : Source) : (raiseEdge src s).receivers = s.receivers := by
  unfold raiseEdge; split <;> rfl
@[simp] theorem raiseEdge_pending (src : Source) : (raiseEdge src s).pending = s.pending := by
  unfold raiseEdge; split <;> rfl

/-! ### testVoltage -/
@[simp] theorem testVoltage_now (u : Nat) : (testVoltage u s).now = s.now := by
  unfold testVoltage; split <;> rfl
@[simp] theorem testVoltage_pru (u : Nat) : (testVoltage u s).pru = s.pru := by
  unfold testVoltage; split <;> rfl
@[simp] theorem testVoltage_cal (u : Nat) : (testVoltage u s).cal = s.cal := by
  unfold testVoltage; split <;> rfl
@[simp] theorem testVoltage_gens (u : Nat) : (testVoltage u s).gens = s.gens := by
  unfold testVoltage; split <;> rfl
@[simp] theorem testVoltage_emitters (u : Nat) : (testVoltage u s).emitters = s.emitters := by
  unfold testVoltage; split <;> rfl
@[simp] theorem testVoltage_monitors (u : Nat) : (testVoltage u s).monitors = s.monitors := by
  unfold testVoltage; split <;> rfl
@[simp] theorem testVoltage_snapshot (u : Nat) : (testVoltage u s).snapshot = s.snapshot := by
  unfold testVoltage; split <;> rfl
@[simp] theorem testVoltage_prot (u : Nat) : (testVoltage u s).prot = s.prot := by
  unfold testVoltage; split <;> rfl
@[simp] theorem testVoltage_ctl (u : Nat) : (testVoltage u s).ctl = s.ctl := by
  unfold testVoltage; split <;> rfl
@[simp] theorem testVoltage_store (u : Nat) : (testVoltage u s).store = s.store := by
  unfold testVoltage; split <;> rfl
@[simp] theorem testVoltage_meas (u : Nat) : (testVoltage u s).meas = s.meas := by
  unfold testVoltage; split <;> rfl
@[simp] theorem testVoltage_port (u : Nat) : (testVoltage u s).port = s.port := by
  unfold testVoltage; split <;> rfl
@[simp] theorem testVoltage_receivers (u : Nat) : (testVoltage u s).receivers = s.receivers := by
  unfold testVoltage; split <;> rfl
@[simp] theorem testVoltage_pending (u : Nat) : (testVoltage u s).pending = s.pending := by
  unfold testVoltage; split <;> rfl

/-! ### followBoost -/
@[simp] theorem followBoost_now : (followBoost s).now = s.now := by
  unfold followBoost; split <;> rfl
@[simp] theorem followBoost_pru : (followBoost s).pru = s.pru := by
  unfold followBoost; split <;> rfl
@[simp] theorem followBoost_cal : (followBoost s).cal = s.cal := by
  unfold followBoost; split <;> rfl
@[simp] theorem followBoost_gens : (followBoost s).gens = s.gens := by
  unfold followBoost; split <;> rfl
@[simp] theorem followBoost_emitters : (followBoost s).emitters = s.emitters := by
  unfold followBoost; split <;> rfl
@[simp] theorem followBoost_monitors : (followBoost s).monitors = s.monitors := by
  unfold followBoost; split <;> rfl
@[simp] theorem followBoost_snapshot : (followBoost s).snapshot = s.snapshot := by
  unfold followBoost; split <;> rfl
@[simp] theorem followBoost_prot : (followBoost s).prot = s.prot := by
  unfold followBoost; split <;> rfl
@[simp] theorem followBoost_ctl : (followBoost s).ctl = s.ctl := by
  unfold followBoost; split <;> rfl
@[simp] theorem followBoost_store : (followBoost s).store = s.store := by
  unfold followBoost; split <;> rfl
@[simp] theorem followBoost_meas : (followBoost s).meas = s.meas := by
  unfold followBoost; split <;> rfl
@[simp] theorem followBoost_port : (followBoost s).port = s.port := by
  unfold followBoost; split <;> rfl
@[simp] theorem followBoost_receivers : (followBoost s).receivers = s.receivers := by
  unfold followBoost; split <;> rfl
@[simp] theorem followBoost_pending : (followBoost s).pending = s.pending := by
  unfold followBoost; split <;> rfl

/-! ### resortOnNesting -/
@[simp] theorem resortOnNesting_now (n : Nesting) : (resortOnNesting n s).now = s.now := by
  unfold resortOnNesting; split <;> rfl
@[simp] theorem resortOnNesting_pru (n : Nesting) : (resortOnNesting n s).pru = s.pru := by
  unfold resortOnNesting; split <;> rfl
@[simp] theorem resortOnNesting_acu (n : Nesting) : (resortOnNesting n s).acu = s.acu := by
  unfold resortOnNesting; split <;> rfl
@[simp] theorem resortOnNesting_cal (n : Nesting) : (resortOnNesting n s).cal = s.cal := by
  unfold resortOnNesting; split <;> rfl
@[simp] theorem resortOnNesting_gens (n : Nesting) : (resortOnNesting n s).gens = s.gens := by
  unfold resortOnNesting; split <;> rfl
@[simp] theorem resortOnNesting_emitters (n : Nesting) : (resortOnNesting n s).emitters = s.emitters := by
  unfold resortOnNesting; split <;> rfl
@[simp] theorem resortOnNesting_monitors (n : Nesting) : (resortOnNesting n s).monitors = s.monitors := by
  unfold resortOnNesting; split <;> rfl
@[simp] theorem resortOnNesting_snapshot (n : Nesting) : (resortOnNesting n s).snapshot = s.snapshot := by
  unfold resortOnNesting; split <;> rfl
@[simp] theorem resortOnNesting_ctl (n : Nesting) : (resortOnNesting n s).ctl = s.ctl := by
  unfold resortOnNesting; split <;> rfl
@[simp] theorem resortOnNesting_store (n : Nesting) : (resortOnNesting n s).store = s.store := by
  unfold resortOnNesting; split <;> rfl
@[simp] theorem resortOnNesting_meas (n : Nesting) : (resortOnNesting n s).meas = s.meas := by
  unfold resortOnNesting; split <;> rfl
@[simp] theorem resortOnNesting_port (n : Nesting) : (resortOnNesting n s).port = s.port := by
  unfold resortOnNesting; split <;> rfl
@[simp] theorem resortOnNesting_receivers (n : Nesting) : (resortOnNesting n s).receivers = s.receivers := by
  unfold resortOnNesting; split <;> rfl
@[simp] theorem resortOnNesting_pending (n : Nesting) : (resortOnNesting n s).pending = s.pending := by
  unfold resortOnNesting; split <;> rfl

/-! ### formOnChange -/
@[simp] theorem formOnChange_now (n : Nat) : (formOnChange n s).now = s.now := by
  unfold formOnChange; split <;> rfl
@[simp] theorem formOnChange_pru (n : Nat) : (formOnChange n s).pru = s.pru := by
  unfold formOnChange; split <;> rfl
@[simp] theorem formOnChange_acu (n : Nat) : (formOnChange n s).acu = s.acu := by
  unfold formOnChange; split <;> rfl
@[simp] theorem formOnChange_cal (n : Nat) : (formOnChange n s).cal = s.cal := by
  unfold formOnChange; split <;> rfl
@[simp] theorem formOnChange_gens (n : Nat) : (formOnChange n s).gens = s.gens := by
  unfold formOnChange; split <;> rfl
@[simp] theorem formOnChange_emitters (n : Nat) : (formOnChange n s).emitters = s.emitters := by
  unfold formOnChange; split <;> rfl
@[simp] theorem formOnChange_snapshot (n : Nat) : (formOnChange n s).snapshot = s.snapshot := by
  unfold formOnChange; split <;> rfl
@[simp] theorem formOnChange_prot (n : Nat) : (formOnChange n s).prot = s.prot := by
  unfold formOnChange; split <;> rfl
@[simp] theorem formOnChange_ctl (n : Nat) : (formOnChange n s).ctl = s.ctl := by
  unfold formOnChange; split <;> rfl
@[simp] theorem formOnChange_store (n : Nat) : (formOnChange n s).store = s.store := by
  unfold formOnChange; split <;> rfl
@[simp] theorem formOnChange_meas (n : Nat) : (formOnChange n s).meas = s.meas := by
  unfold formOnChange; split <;> rfl
@[simp] theorem formOnChange_port (n : Nat) : (formOnChange n s).port = s.port := by
  unfold formOnChange; split <;> rfl
@[simp] theorem formOnChange_receivers (n : Nat) : (formOnChange n s).receivers = s.receivers := by
  unfold formOnChange; split <;> rfl
@[simp] theorem formOnChange_pending (n : Nat) : (formOnChange n s).pending = s.pending := by
  unfold formOnChange; split <;> rfl

/-! ### enqueue -/
@[simp] theorem enqueue_now (f : ControlFrame) : (enqueue f s).now = s.now := by
  unfold enqueue; split <;> rfl
@[simp] theorem enqueue_pru (f : ControlFrame) : (enqueue f s).pru = s.pru := by
  unfold enqueue; split <;> rfl
@[simp] theorem enqueue_acu (f : ControlFrame) : (enqueue f s).acu = s.acu := by
  unfold enqueue; split <;> rfl
@[simp] theorem enqueue_cal (f : ControlFrame) : (enqueue f s).cal = s.cal := by
  unfold enqueue; split <;> rfl
@[simp] theorem enqueue_gens (f : ControlFrame) : (enqueue f s).gens = s.gens := by
  unfold enqueue; split <;> rfl
@[simp] theorem enqueue_emitters (f : ControlFrame) : (enqueue f s).emitters = s.emitters := by
  unfold enqueue; split <;> rfl
@[simp] theorem enqueue_monitors (f : ControlFrame) : (enqueue f s).monitors = s.monitors := by
  unfold enqueue; split <;> rfl
@[simp] theorem enqueue_snapshot (f : ControlFrame) : (enqueue f s).snapshot = s.snapshot := by
  unfold enqueue; split <;> rfl
@[simp] theorem enqueue_prot (f : ControlFrame) : (enqueue f s).prot = s.prot := by
  unfold enqueue; split <;> rfl
@[simp] theorem enqueue_ctl (f : ControlFrame) : (enqueue f s).ctl = s.ctl := by
  unfold enqueue; split <;> rfl
@[simp] theorem enqueue_store (f : ControlFrame) : (enqueue f s).store = s.store := by
  unfold enqueue; split <;> rfl
@[simp] theorem enqueue_meas (f : ControlFrame) : (enqueue f s).meas = s.meas := by
  unfold enqueue; split <;> rfl
@[simp] theorem enqueue_receivers (f : ControlFrame) : (enqueue f s).receivers = s.receivers := by
  unfold enqueue; split <;> rfl
@[simp] theorem enqueue_pending (f : ControlFrame) : (enqueue f s).pending = s.pending := by
  unfold enqueue; split <;> rfl

/-! ### endStale -/
@[simp] theorem endStale_now : (endStale s).now = s.now := by
  unfold endStale; split <;> rfl
@[simp] theorem endStale_pru : (endStale s).pru = s.pru := by
  unfold endStale; split <;> rfl
@[simp] theorem endStale_cal : (endStale s).cal = s.cal := by
  unfold endStale; split <;> rfl
@[simp] theorem endStale_gens : (endStale s).gens = s.gens := by
  unfold endStale; split <;> rfl
@[simp] theorem endStale_emitters : (endStale s).emitters = s.emitters := by
  unfold endStale; split <;> rfl
@[simp] theorem endStale_monitors : (endStale s).monitors = s.monitors := by
  unfold endStale; split <;> rfl
@[simp] theorem endStale_snapshot : (endStale s).snapshot = s.snapshot := by
  unfold endStale; split <;> rfl
@[simp] theorem endStale_prot : (endStale s).prot = s.prot := by
  unfold endStale; split <;> rfl
@[simp] theorem endStale_ctl : (endStale s).ctl = s.ctl := by
  unfold endStale; split <;> rfl
@[simp] theorem endStale_store : (endStale s).store = s.store := by
  unfold endStale; split <;> rfl
@[simp] theorem endStale_port : (endStale s).port = s.port := by
  unfold endStale; split <;> rfl
@[simp] theorem endStale_receivers : (endStale s).receivers = s.receivers := by
  unfold endStale; split <;> rfl
@[simp] theorem endStale_pending : (endStale s).pending = s.pending := by
  unfold endStale; split <;> rfl

end Sys2Proof.Machine
end

