-- ==== Sys2Proof/Laws/Calendar.lean ====
section
/-! SUPPORT. What the calendar's operations do: the firing event, the taking of an order, the entry to BYPASS. -/

namespace Sys2Proof.Machine

variable (s : State)

/-! ### markFired and countTest leave the controller's state, mode and timers -/

@[simp] theorem markFired_ctl_state (v : Valve) : (markFired v s).ctl.state = s.ctl.state := by
  unfold markFired; split <;> rfl
@[simp] theorem markFired_ctl_testMode (v : Valve) : (markFired v s).ctl.testMode = s.ctl.testMode := by
  unfold markFired; split <;> rfl
@[simp] theorem markFired_ctl_programmed (v : Valve) : (markFired v s).ctl.programmed = s.ctl.programmed := by
  unfold markFired; split <;> rfl
@[simp] theorem markFired_ctl_precheckTimer (v : Valve) : (markFired v s).ctl.precheckTimer = s.ctl.precheckTimer := by
  unfold markFired; split <;> rfl
@[simp] theorem markFired_ctl_retardTimer (v : Valve) : (markFired v s).ctl.retardTimer = s.ctl.retardTimer := by
  unfold markFired; split <;> rfl
@[simp] theorem markFired_ctl_ready (v : Valve) : (markFired v s).ctl.ready = s.ctl.ready := by
  unfold markFired; split <;> rfl
@[simp] theorem markFired_ctl_testDone (v : Valve) : (markFired v s).ctl.testDone = s.ctl.testDone := by
  unfold markFired; split <;> rfl
@[simp] theorem markFired_ctl_remaining (v : Valve) : (markFired v s).ctl.remaining = s.ctl.remaining := by
  unfold markFired; split <;> rfl
@[simp] theorem countTest_ctl_state (o : Order) : (countTest o s).ctl.state = s.ctl.state := by
  unfold countTest; dsimp only; split
  · split <;> rfl
  · rfl
@[simp] theorem countTest_ctl_testMode (o : Order) : (countTest o s).ctl.testMode = s.ctl.testMode := by
  unfold countTest; dsimp only; split
  · split <;> rfl
  · rfl
@[simp] theorem countTest_ctl_programmed (o : Order) : (countTest o s).ctl.programmed = s.ctl.programmed := by
  unfold countTest; dsimp only; split
  · split <;> rfl
  · rfl
@[simp] theorem countTest_ctl_precheckTimer (o : Order) : (countTest o s).ctl.precheckTimer = s.ctl.precheckTimer := by
  unfold countTest; dsimp only; split
  · split <;> rfl
  · rfl
@[simp] theorem countTest_ctl_retardTimer (o : Order) : (countTest o s).ctl.retardTimer = s.ctl.retardTimer := by
  unfold countTest; dsimp only; split
  · split <;> rfl
  · rfl
@[simp] theorem countTest_ctl_ready (o : Order) : (countTest o s).ctl.ready = s.ctl.ready := by
  unfold countTest; dsimp only; split
  · split <;> rfl
  · rfl
@[simp] theorem countTest_ctl_testDone (o : Order) : (countTest o s).ctl.testDone = s.ctl.testDone := by
  unfold countTest; dsimp only; split
  · split <;> rfl
  · rfl

/-! ### fireOrder -/

@[simp] theorem fireOrder_now (o : Order) : (fireOrder o s).now = s.now := by simp [fireOrder]
@[simp] theorem fireOrder_pru (o : Order) : (fireOrder o s).pru = s.pru := by simp [fireOrder]
@[simp] theorem fireOrder_acu (o : Order) : (fireOrder o s).acu = s.acu := by simp [fireOrder]
@[simp] theorem fireOrder_snapshot (o : Order) : (fireOrder o s).snapshot = s.snapshot := by simp [fireOrder]
@[simp] theorem fireOrder_prot (o : Order) : (fireOrder o s).prot = s.prot := by simp [fireOrder]
@[simp] theorem fireOrder_store (o : Order) : (fireOrder o s).store = s.store := by simp [fireOrder]
@[simp] theorem fireOrder_meas (o : Order) : (fireOrder o s).meas = s.meas := by simp [fireOrder]
@[simp] theorem fireOrder_port (o : Order) : (fireOrder o s).port = s.port := by simp [fireOrder]
@[simp] theorem fireOrder_receivers (o : Order) : (fireOrder o s).receivers = s.receivers := by simp [fireOrder]
@[simp] theorem fireOrder_pending (o : Order) : (fireOrder o s).pending = s.pending := by simp [fireOrder]
@[simp] theorem fireOrder_ctl_state (o : Order) : (fireOrder o s).ctl.state = s.ctl.state := by simp [fireOrder]
@[simp] theorem fireOrder_ctl_testMode (o : Order) : (fireOrder o s).ctl.testMode = s.ctl.testMode := by simp [fireOrder]
@[simp] theorem fireOrder_ctl_programmed (o : Order) : (fireOrder o s).ctl.programmed = s.ctl.programmed := by simp [fireOrder]
@[simp] theorem fireOrder_ctl_precheckTimer (o : Order) : (fireOrder o s).ctl.precheckTimer = s.ctl.precheckTimer := by simp [fireOrder]
@[simp] theorem fireOrder_ctl_retardTimer (o : Order) : (fireOrder o s).ctl.retardTimer = s.ctl.retardTimer := by simp [fireOrder]
@[simp] theorem fireOrder_ctl_ready (o : Order) : (fireOrder o s).ctl.ready = s.ctl.ready := by simp [fireOrder]
@[simp] theorem fireOrder_ctl_testDone (o : Order) : (fireOrder o s).ctl.testDone = s.ctl.testDone := by simp [fireOrder]

/-- The calendar after a firing: counted and recorded (R49, R56). -/
@[simp] theorem fireOrder_cal (o : Order) : (fireOrder o s).cal = { s.cal with
    fired := s.cal.fired + 1
    ring := pushRing (firingRecord (s.cal.fired + 1) s.now o) s.cal.ring } := by
  simp [fireOrder, countFiring]

/-- Only the fired valve's window advances (R77). -/
theorem fireOrder_monitors (o : Order) :
    (fireOrder o s).monitors = s.monitors.set o.valve (advanceWindow s.monitors[o.valve]) := by
  simp [fireOrder, windowFiring, setMonitor]

@[simp] theorem closeWindow_levels (m : ValveMonitor) : (closeWindow m).levels = m.levels := by
  unfold closeWindow; split <;> rfl

@[simp] theorem advanceWindow_levels (m : ValveMonitor) : (advanceWindow m).levels = m.levels := by
  simp [advanceWindow]

/-- A firing changes no level entry. -/
@[simp] theorem fireOrder_levels (o : Order) (i : Nat) (hi : i < 12) :
    ((fireOrder o s).monitors[i]'hi).levels = (s.monitors[i]'hi).levels := by
  simp only [fireOrder_monitors, Vector.getElem_set]
  split
  · rename_i h; subst h; simp
  · rfl

/-- A discard of the whole list counts each entry (R52). -/
@[simp] theorem discardAll_cal : (discardAll s).cal = { s.cal with
    orders := []
    discarded := s.cal.discarded + s.cal.orders.length } := rfl

/-! ### fireStanding, takeOrder, bypassFirings -/

@[simp] theorem fireStanding_now (v : Valve) : (fireStanding v s).now = s.now := by
  unfold fireStanding; split <;> simp
@[simp] theorem fireStanding_pru (v : Valve) : (fireStanding v s).pru = s.pru := by
  unfold fireStanding; split <;> simp
@[simp] theorem fireStanding_acu (v : Valve) : (fireStanding v s).acu = s.acu := by
  unfold fireStanding; split <;> simp
@[simp] theorem fireStanding_snapshot (v : Valve) : (fireStanding v s).snapshot = s.snapshot := by
  unfold fireStanding; split <;> simp
@[simp] theorem fireStanding_prot (v : Valve) : (fireStanding v s).prot = s.prot := by
  unfold fireStanding; split <;> simp
@[simp] theorem fireStanding_store (v : Valve) : (fireStanding v s).store = s.store := by
  unfold fireStanding; split <;> simp
@[simp] theorem fireStanding_meas (v : Valve) : (fireStanding v s).meas = s.meas := by
  unfold fireStanding; split <;> simp
@[simp] theorem fireStanding_port (v : Valve) : (fireStanding v s).port = s.port := by
  unfold fireStanding; split <;> simp
@[simp] theorem fireStanding_receivers (v : Valve) : (fireStanding v s).receivers = s.receivers := by
  unfold fireStanding; split <;> simp
@[simp] theorem fireStanding_pending (v : Valve) : (fireStanding v s).pending = s.pending := by
  unfold fireStanding; split <;> simp
@[simp] theorem fireStanding_ctl_state (v : Valve) : (fireStanding v s).ctl.state = s.ctl.state := by
  unfold fireStanding; split <;> simp
@[simp] theorem fireStanding_ctl_testMode (v : Valve) : (fireStanding v s).ctl.testMode = s.ctl.testMode := by
  unfold fireStanding; split <;> simp
@[simp] theorem fireStanding_ctl_programmed (v : Valve) : (fireStanding v s).ctl.programmed = s.ctl.programmed := by
  unfold fireStanding; split <;> simp
@[simp] theorem fireStanding_ctl_precheckTimer (v : Valve) : (fireStanding v s).ctl.precheckTimer = s.ctl.precheckTimer := by
  unfold fireStanding; split <;> simp
@[simp] theorem fireStanding_ctl_retardTimer (v : Valve) : (fireStanding v s).ctl.retardTimer = s.ctl.retardTimer := by
  unfold fireStanding; split <;> simp
@[simp] theorem fireStanding_ctl_ready (v : Valve) : (fireStanding v s).ctl.ready = s.ctl.ready := by
  unfold fireStanding; split <;> simp
@[simp] theorem fireStanding_ctl_testDone (v : Valve) : (fireStanding v s).ctl.testDone = s.ctl.testDone := by
  unfold fireStanding; split <;> simp
@[simp] theorem takeOrder_now (o : Order) : (takeOrder o s).now = s.now := by
  unfold takeOrder; dsimp only; split <;> simp
@[simp] theorem takeOrder_pru (o : Order) : (takeOrder o s).pru = s.pru := by
  unfold takeOrder; dsimp only; split <;> simp
@[simp] theorem takeOrder_acu (o : Order) : (takeOrder o s).acu = s.acu := by
  unfold takeOrder; dsimp only; split <;> simp
@[simp] theorem takeOrder_snapshot (o : Order) : (takeOrder o s).snapshot = s.snapshot := by
  unfold takeOrder; dsimp only; split <;> simp
@[simp] theorem takeOrder_prot (o : Order) : (takeOrder o s).prot = s.prot := by
  unfold takeOrder; dsimp only; split <;> simp
@[simp] theorem takeOrder_store (o : Order) : (takeOrder o s).store = s.store := by
  unfold takeOrder; dsimp only; split <;> simp
@[simp] theorem takeOrder_meas (o : Order) : (takeOrder o s).meas = s.meas := by
  unfold takeOrder; dsimp only; split <;> simp
@[simp] theorem takeOrder_port (o : Order) : (takeOrder o s).port = s.port := by
  unfold takeOrder; dsimp only; split <;> simp
@[simp] theorem takeOrder_receivers (o : Order) : (takeOrder o s).receivers = s.receivers := by
  unfold takeOrder; dsimp only; split <;> simp
@[simp] theorem takeOrder_pending (o : Order) : (takeOrder o s).pending = s.pending := by
  unfold takeOrder; dsimp only; split <;> simp
@[simp] theorem takeOrder_ctl_state (o : Order) : (takeOrder o s).ctl.state = s.ctl.state := by
  unfold takeOrder; dsimp only; split <;> simp
@[simp] theorem takeOrder_ctl_testMode (o : Order) : (takeOrder o s).ctl.testMode = s.ctl.testMode := by
  unfold takeOrder; dsimp only; split <;> simp
@[simp] theorem takeOrder_ctl_programmed (o : Order) : (takeOrder o s).ctl.programmed = s.ctl.programmed := by
  unfold takeOrder; dsimp only; split <;> simp
@[simp] theorem takeOrder_ctl_precheckTimer (o : Order) : (takeOrder o s).ctl.precheckTimer = s.ctl.precheckTimer := by
  unfold takeOrder; dsimp only; split <;> simp
@[simp] theorem takeOrder_ctl_retardTimer (o : Order) : (takeOrder o s).ctl.retardTimer = s.ctl.retardTimer := by
  unfold takeOrder; dsimp only; split <;> simp
@[simp] theorem takeOrder_ctl_ready (o : Order) : (takeOrder o s).ctl.ready = s.ctl.ready := by
  unfold takeOrder; dsimp only; split <;> simp
@[simp] theorem takeOrder_ctl_testDone (o : Order) : (takeOrder o s).ctl.testDone = s.ctl.testDone := by
  unfold takeOrder; dsimp only; split <;> simp
@[simp] theorem bypassFirings_now (y d : Valve × Valve) : (bypassFirings y d s).now = s.now := by
  simp [bypassFirings]
@[simp] theorem bypassFirings_pru (y d : Valve × Valve) : (bypassFirings y d s).pru = s.pru := by
  simp [bypassFirings]
@[simp] theorem bypassFirings_acu (y d : Valve × Valve) : (bypassFirings y d s).acu = s.acu := by
  simp [bypassFirings]
@[simp] theorem bypassFirings_snapshot (y d : Valve × Valve) : (bypassFirings y d s).snapshot = s.snapshot := by
  simp [bypassFirings]
@[simp] theorem bypassFirings_prot (y d : Valve × Valve) : (bypassFirings y d s).prot = s.prot := by
  simp [bypassFirings]
@[simp] theorem bypassFirings_store (y d : Valve × Valve) : (bypassFirings y d s).store = s.store := by
  simp [bypassFirings]
@[simp] theorem bypassFirings_meas (y d : Valve × Valve) : (bypassFirings y d s).meas = s.meas := by
  simp [bypassFirings]
@[simp] theorem bypassFirings_port (y d : Valve × Valve) : (bypassFirings y d s).port = s.port := by
  simp [bypassFirings]
@[simp] theorem bypassFirings_receivers (y d : Valve × Valve) : (bypassFirings y d s).receivers = s.receivers := by
  simp [bypassFirings]
@[simp] theorem bypassFirings_pending (y d : Valve × Valve) : (bypassFirings y d s).pending = s.pending := by
  simp [bypassFirings]
@[simp] theorem bypassFirings_ctl_state (y d : Valve × Valve) : (bypassFirings y d s).ctl.state = s.ctl.state := by
  simp [bypassFirings]
@[simp] theorem bypassFirings_ctl_testMode (y d : Valve × Valve) : (bypassFirings y d s).ctl.testMode = s.ctl.testMode := by
  simp [bypassFirings]
@[simp] theorem bypassFirings_ctl_programmed (y d : Valve × Valve) : (bypassFirings y d s).ctl.programmed = s.ctl.programmed := by
  simp [bypassFirings]
@[simp] theorem bypassFirings_ctl_precheckTimer (y d : Valve × Valve) : (bypassFirings y d s).ctl.precheckTimer = s.ctl.precheckTimer := by
  simp [bypassFirings]
@[simp] theorem bypassFirings_ctl_retardTimer (y d : Valve × Valve) : (bypassFirings y d s).ctl.retardTimer = s.ctl.retardTimer := by
  simp [bypassFirings]
@[simp] theorem bypassFirings_ctl_ready (y d : Valve × Valve) : (bypassFirings y d s).ctl.ready = s.ctl.ready := by
  simp [bypassFirings]
@[simp] theorem bypassFirings_ctl_testDone (y d : Valve × Valve) : (bypassFirings y d s).ctl.testDone = s.ctl.testDone := by
  simp [bypassFirings]

@[simp] theorem fireStanding_levels (w : Valve) (i : Nat) (hi : i < 12) :
    ((fireStanding w s).monitors[i]'hi).levels = (s.monitors[i]'hi).levels := by
  unfold fireStanding; split <;> simp

@[simp] theorem takeOrder_levels (o : Order) (i : Nat) (hi : i < 12) :
    ((takeOrder o s).monitors[i]'hi).levels = (s.monitors[i]'hi).levels := by
  unfold takeOrder; dsimp only; split <;> simp

@[simp] theorem bypassFirings_levels (y d : Valve × Valve) (i : Nat) (hi : i < 12) :
    ((bypassFirings y d s).monitors[i]'hi).levels = (s.monitors[i]'hi).levels := by
  simp [bypassFirings]

@[simp] theorem insertOrder_length (st : Store) (o : Order) (l : List Order) :
    (insertOrder st o l).length = l.length + 1 := by
  induction l with
  | nil => rfl
  | cons x xs ih => unfold insertOrder; split <;> simp [ih]

/-- The members of the list after an insertion (R45). -/
theorem mem_insertOrder (st : Store) (o x : Order) (l : List Order) :
    x ∈ insertOrder st o l ↔ x = o ∨ x ∈ l := by
  induction l with
  | nil => simp [insertOrder]
  | cons y ys ih =>
    unfold insertOrder; split
    · simp
    · simp [ih]; tauto

/-- What the calendar's entry to BYPASS leaves (R48): the NORMAL orders are discarded, four orders are taken and fired. -/
theorem bypassFirings_account (y d : Valve × Valve) :
    (bypassFirings y d s).cal.orders = s.cal.orders.filter (fun o => decide (o.kind ≠ .normal)) ∧
    (bypassFirings y d s).cal.created = s.cal.created + 4 ∧
    (bypassFirings y d s).cal.fired = s.cal.fired + 4 ∧
    (bypassFirings y d s).cal.discarded =
      s.cal.discarded + s.cal.orders.countP (fun o => decide (o.kind = .normal)) := by
  simp [bypassFirings, discardNormal]


end Sys2Proof.Machine
end

