-- ==== Sys2Proof/Laws/Resolver.lean ====
section
/-! SUPPORT. What the resolver's operations do: they write the resolver and the outgoing records, and nothing else. -/

namespace Sys2Proof.Machine

variable (s : State)

/-! ### Sets of sources -/

@[simp] theorem hasSource_putSource (x : SourceSet) (a b : Source) (p : Bool) :
    hasSource (putSource x a p) b = if a = b then p else hasSource x b := by
  cases a <;> cases b <;> simp [hasSource, putSource]

/-- Putting a source where it already stands changes nothing. -/
theorem putSource_same (x : SourceSet) (a : Source) (p : Bool) (h : hasSource x a = p) : putSource x a p = x := by
  cases a <;> cases p <;> cases x <;> simp_all [hasSource, putSource]

/-! ### Frames -/

@[simp] theorem appendRecord_port_requests (r : OutRecord) : (appendRecord r s).port.requests = s.port.requests := rfl
@[simp] theorem appendRecord_port_linkTimer (r : OutRecord) : (appendRecord r s).port.linkTimer = s.port.linkTimer := rfl
@[simp] theorem appendRecord_port_linkSilent (r : OutRecord) : (appendRecord r s).port.linkSilent = s.port.linkSilent := rfl
@[simp] theorem appendRecord_port_orderTimer (r : OutRecord) : (appendRecord r s).port.orderTimer = s.port.orderTimer := rfl
@[simp] theorem appendRecord_port_lastSent (r : OutRecord) : (appendRecord r s).port.lastSent = s.port.lastSent := rfl
@[simp] theorem notify_port_requests (r : OutRecord) : (notify r s).port.requests = s.port.requests := by
  unfold notify; split <;> rfl
@[simp] theorem notify_port_linkTimer (r : OutRecord) : (notify r s).port.linkTimer = s.port.linkTimer := by
  unfold notify; split <;> rfl
@[simp] theorem notify_port_linkSilent (r : OutRecord) : (notify r s).port.linkSilent = s.port.linkSilent := by
  unfold notify; split <;> rfl
@[simp] theorem notify_port_orderTimer (r : OutRecord) : (notify r s).port.orderTimer = s.port.orderTimer := by
  unfold notify; split <;> rfl
@[simp] theorem notify_port_lastSent (r : OutRecord) : (notify r s).port.lastSent = s.port.lastSent := by
  unfold notify; split <;> rfl

/-! ### notifyState -/

@[simp] theorem notifyState_now (a b : ConvState) (c : StateCause) (v : Option Valve) : (notifyState a b c v s).now = s.now := by
  simp [notifyState]
@[simp] theorem notifyState_pru (a b : ConvState) (c : StateCause) (v : Option Valve) : (notifyState a b c v s).pru = s.pru := by
  simp [notifyState]
@[simp] theorem notifyState_acu (a b : ConvState) (c : StateCause) (v : Option Valve) : (notifyState a b c v s).acu = s.acu := by
  simp [notifyState]
@[simp] theorem notifyState_cal (a b : ConvState) (c : StateCause) (v : Option Valve) : (notifyState a b c v s).cal = s.cal := by
  simp [notifyState]
@[simp] theorem notifyState_gens (a b : ConvState) (c : StateCause) (v : Option Valve) : (notifyState a b c v s).gens = s.gens := by
  simp [notifyState]
@[simp] theorem notifyState_emitters (a b : ConvState) (c : StateCause) (v : Option Valve) : (notifyState a b c v s).emitters = s.emitters := by
  simp [notifyState]
@[simp] theorem notifyState_monitors (a b : ConvState) (c : StateCause) (v : Option Valve) : (notifyState a b c v s).monitors = s.monitors := by
  simp [notifyState]
@[simp] theorem notifyState_snapshot (a b : ConvState) (c : StateCause) (v : Option Valve) : (notifyState a b c v s).snapshot = s.snapshot := by
  simp [notifyState]
@[simp] theorem notifyState_ctl (a b : ConvState) (c : StateCause) (v : Option Valve) : (notifyState a b c v s).ctl = s.ctl := by
  simp [notifyState]
@[simp] theorem notifyState_store (a b : ConvState) (c : StateCause) (v : Option Valve) : (notifyState a b c v s).store = s.store := by
  simp [notifyState]
@[simp] theorem notifyState_meas (a b : ConvState) (c : StateCause) (v : Option Valve) : (notifyState a b c v s).meas = s.meas := by
  simp [notifyState]
@[simp] theorem notifyState_receivers (a b : ConvState) (c : StateCause) (v : Option Valve) : (notifyState a b c v s).receivers = s.receivers := by
  simp [notifyState]
@[simp] theorem notifyState_pending (a b : ConvState) (c : StateCause) (v : Option Valve) : (notifyState a b c v s).pending = s.pending := by
  simp [notifyState]
@[simp] theorem notifyState_port_requests (a b : ConvState) (c : StateCause) (v : Option Valve) : (notifyState a b c v s).port.requests = s.port.requests := by
  simp [notifyState]
@[simp] theorem notifyState_port_linkTimer (a b : ConvState) (c : StateCause) (v : Option Valve) : (notifyState a b c v s).port.linkTimer = s.port.linkTimer := by
  simp [notifyState]
@[simp] theorem notifyState_port_linkSilent (a b : ConvState) (c : StateCause) (v : Option Valve) : (notifyState a b c v s).port.linkSilent = s.port.linkSilent := by
  simp [notifyState]
@[simp] theorem notifyState_port_orderTimer (a b : ConvState) (c : StateCause) (v : Option Valve) : (notifyState a b c v s).port.orderTimer = s.port.orderTimer := by
  simp [notifyState]
@[simp] theorem notifyState_port_lastSent (a b : ConvState) (c : StateCause) (v : Option Valve) : (notifyState a b c v s).port.lastSent = s.port.lastSent := by
  simp [notifyState]
@[simp] theorem notifyState_prot (a b : ConvState) (c : StateCause) (v : Option Valve) : (notifyState a b c v s).prot = s.prot := by
  simp [notifyState]

/-! ### placeEnded -/

@[simp] theorem placeEnded_now (src : Source) : (placeEnded src s).now = s.now := by
  unfold placeEnded; split
  · simp
  · split <;> simp
@[simp] theorem placeEnded_pru (src : Source) : (placeEnded src s).pru = s.pru := by
  unfold placeEnded; split
  · simp
  · split <;> simp
@[simp] theorem placeEnded_acu (src : Source) : (placeEnded src s).acu = s.acu := by
  unfold placeEnded; split
  · simp
  · split <;> simp
@[simp] theorem placeEnded_cal (src : Source) : (placeEnded src s).cal = s.cal := by
  unfold placeEnded; split
  · simp
  · split <;> simp
@[simp] theorem placeEnded_gens (src : Source) : (placeEnded src s).gens = s.gens := by
  unfold placeEnded; split
  · simp
  · split <;> simp
@[simp] theorem placeEnded_emitters (src : Source) : (placeEnded src s).emitters = s.emitters := by
  unfold placeEnded; split
  · simp
  · split <;> simp
@[simp] theorem placeEnded_monitors (src : Source) : (placeEnded src s).monitors = s.monitors := by
  unfold placeEnded; split
  · simp
  · split <;> simp
@[simp] theorem placeEnded_snapshot (src : Source) : (placeEnded src s).snapshot = s.snapshot := by
  unfold placeEnded; split
  · simp
  · split <;> simp
@[simp] theorem placeEnded_ctl (src : Source) : (placeEnded src s).ctl = s.ctl := by
  unfold placeEnded; split
  · simp
  · split <;> simp
@[simp] theorem placeEnded_store (src : Source) : (placeEnded src s).store = s.store := by
  unfold placeEnded; split
  · simp
  · split <;> simp
@[simp] theorem placeEnded_meas (src : Source) : (placeEnded src s).meas = s.meas := by
  unfold placeEnded; split
  · simp
  · split <;> simp
@[simp] theorem placeEnded_receivers (src : Source) : (placeEnded src s).receivers = s.receivers := by
  unfold placeEnded; split
  · simp
  · split <;> simp
@[simp] theorem placeEnded_pending (src : Source) : (placeEnded src s).pending = s.pending := by
  unfold placeEnded; split
  · simp
  · split <;> simp
@[simp] theorem placeEnded_port_requests (src : Source) : (placeEnded src s).port.requests = s.port.requests := by
  unfold placeEnded; split
  · simp
  · split <;> simp
@[simp] theorem placeEnded_port_linkTimer (src : Source) : (placeEnded src s).port.linkTimer = s.port.linkTimer := by
  unfold placeEnded; split
  · simp
  · split <;> simp
@[simp] theorem placeEnded_port_linkSilent (src : Source) : (placeEnded src s).port.linkSilent = s.port.linkSilent := by
  unfold placeEnded; split
  · simp
  · split <;> simp
@[simp] theorem placeEnded_port_orderTimer (src : Source) : (placeEnded src s).port.orderTimer = s.port.orderTimer := by
  unfold placeEnded; split
  · simp
  · split <;> simp
@[simp] theorem placeEnded_port_lastSent (src : Source) : (placeEnded src s).port.lastSent = s.port.lastSent := by
  unfold placeEnded; split
  · simp
  · split <;> simp

/-! ### endSource -/

@[simp] theorem endSource_now (src : Source) (c : EndCause) : (endSource src c s).now = s.now := by
  simp [endSource]
@[simp] theorem endSource_pru (src : Source) (c : EndCause) : (endSource src c s).pru = s.pru := by
  simp [endSource]
@[simp] theorem endSource_acu (src : Source) (c : EndCause) : (endSource src c s).acu = s.acu := by
  simp [endSource]
@[simp] theorem endSource_cal (src : Source) (c : EndCause) : (endSource src c s).cal = s.cal := by
  simp [endSource]
@[simp] theorem endSource_gens (src : Source) (c : EndCause) : (endSource src c s).gens = s.gens := by
  simp [endSource]
@[simp] theorem endSource_emitters (src : Source) (c : EndCause) : (endSource src c s).emitters = s.emitters := by
  simp [endSource]
@[simp] theorem endSource_monitors (src : Source) (c : EndCause) : (endSource src c s).monitors = s.monitors := by
  simp [endSource]
@[simp] theorem endSource_snapshot (src : Source) (c : EndCause) : (endSource src c s).snapshot = s.snapshot := by
  simp [endSource]
@[simp] theorem endSource_ctl (src : Source) (c : EndCause) : (endSource src c s).ctl = s.ctl := by
  simp [endSource]
@[simp] theorem endSource_store (src : Source) (c : EndCause) : (endSource src c s).store = s.store := by
  simp [endSource]
@[simp] theorem endSource_meas (src : Source) (c : EndCause) : (endSource src c s).meas = s.meas := by
  simp [endSource]
@[simp] theorem endSource_receivers (src : Source) (c : EndCause) : (endSource src c s).receivers = s.receivers := by
  simp [endSource]
@[simp] theorem endSource_pending (src : Source) (c : EndCause) : (endSource src c s).pending = s.pending := by
  simp [endSource]
@[simp] theorem endSource_port_requests (src : Source) (c : EndCause) : (endSource src c s).port.requests = s.port.requests := by
  simp [endSource]
@[simp] theorem endSource_port_linkTimer (src : Source) (c : EndCause) : (endSource src c s).port.linkTimer = s.port.linkTimer := by
  simp [endSource]
@[simp] theorem endSource_port_linkSilent (src : Source) (c : EndCause) : (endSource src c s).port.linkSilent = s.port.linkSilent := by
  simp [endSource]
@[simp] theorem endSource_port_orderTimer (src : Source) (c : EndCause) : (endSource src c s).port.orderTimer = s.port.orderTimer := by
  simp [endSource]
@[simp] theorem endSource_port_lastSent (src : Source) (c : EndCause) : (endSource src c s).port.lastSent = s.port.lastSent := by
  simp [endSource]

/-! ### rereadOne -/

@[simp] theorem rereadOne_now (src : Source) : (rereadOne src s).now = s.now := by
  unfold rereadOne; repeat' split
  all_goals simp
@[simp] theorem rereadOne_pru (src : Source) : (rereadOne src s).pru = s.pru := by
  unfold rereadOne; repeat' split
  all_goals simp
@[simp] theorem rereadOne_acu (src : Source) : (rereadOne src s).acu = s.acu := by
  unfold rereadOne; repeat' split
  all_goals simp
@[simp] theorem rereadOne_cal (src : Source) : (rereadOne src s).cal = s.cal := by
  unfold rereadOne; repeat' split
  all_goals simp
@[simp] theorem rereadOne_gens (src : Source) : (rereadOne src s).gens = s.gens := by
  unfold rereadOne; repeat' split
  all_goals simp
@[simp] theorem rereadOne_emitters (src : Source) : (rereadOne src s).emitters = s.emitters := by
  unfold rereadOne; repeat' split
  all_goals simp
@[simp] theorem rereadOne_monitors (src : Source) : (rereadOne src s).monitors = s.monitors := by
  unfold rereadOne; repeat' split
  all_goals simp
@[simp] theorem rereadOne_snapshot (src : Source) : (rereadOne src s).snapshot = s.snapshot := by
  unfold rereadOne; repeat' split
  all_goals simp
@[simp] theorem rereadOne_ctl (src : Source) : (rereadOne src s).ctl = s.ctl := by
  unfold rereadOne; repeat' split
  all_goals simp
@[simp] theorem rereadOne_store (src : Source) : (rereadOne src s).store = s.store := by
  unfold rereadOne; repeat' split
  all_goals simp
@[simp] theorem rereadOne_meas (src : Source) : (rereadOne src s).meas = s.meas := by
  unfold rereadOne; repeat' split
  all_goals simp
@[simp] theorem rereadOne_receivers (src : Source) : (rereadOne src s).receivers = s.receivers := by
  unfold rereadOne; repeat' split
  all_goals simp
@[simp] theorem rereadOne_pending (src : Source) : (rereadOne src s).pending = s.pending := by
  unfold rereadOne; repeat' split
  all_goals simp
@[simp] theorem rereadOne_port_requests (src : Source) : (rereadOne src s).port.requests = s.port.requests := by
  unfold rereadOne; repeat' split
  all_goals simp
@[simp] theorem rereadOne_port_linkTimer (src : Source) : (rereadOne src s).port.linkTimer = s.port.linkTimer := by
  unfold rereadOne; repeat' split
  all_goals simp
@[simp] theorem rereadOne_port_linkSilent (src : Source) : (rereadOne src s).port.linkSilent = s.port.linkSilent := by
  unfold rereadOne; repeat' split
  all_goals simp
@[simp] theorem rereadOne_port_orderTimer (src : Source) : (rereadOne src s).port.orderTimer = s.port.orderTimer := by
  unfold rereadOne; repeat' split
  all_goals simp
@[simp] theorem rereadOne_port_lastSent (src : Source) : (rereadOne src s).port.lastSent = s.port.lastSent := by
  unfold rereadOne; repeat' split
  all_goals simp

/-! ### rereadConditions -/

@[simp] theorem rereadConditions_now : (rereadConditions s).now = s.now := by
  simp [rereadConditions]
@[simp] theorem rereadConditions_pru : (rereadConditions s).pru = s.pru := by
  simp [rereadConditions]
@[simp] theorem rereadConditions_acu : (rereadConditions s).acu = s.acu := by
  simp [rereadConditions]
@[simp] theorem rereadConditions_cal : (rereadConditions s).cal = s.cal := by
  simp [rereadConditions]
@[simp] theorem rereadConditions_gens : (rereadConditions s).gens = s.gens := by
  simp [rereadConditions]
@[simp] theorem rereadConditions_emitters : (rereadConditions s).emitters = s.emitters := by
  simp [rereadConditions]
@[simp] theorem rereadConditions_monitors : (rereadConditions s).monitors = s.monitors := by
  simp [rereadConditions]
@[simp] theorem rereadConditions_snapshot : (rereadConditions s).snapshot = s.snapshot := by
  simp [rereadConditions]
@[simp] theorem rereadConditions_ctl : (rereadConditions s).ctl = s.ctl := by
  simp [rereadConditions]
@[simp] theorem rereadConditions_store : (rereadConditions s).store = s.store := by
  simp [rereadConditions]
@[simp] theorem rereadConditions_meas : (rereadConditions s).meas = s.meas := by
  simp [rereadConditions]
@[simp] theorem rereadConditions_receivers : (rereadConditions s).receivers = s.receivers := by
  simp [rereadConditions]
@[simp] theorem rereadConditions_pending : (rereadConditions s).pending = s.pending := by
  simp [rereadConditions]
@[simp] theorem rereadConditions_port_requests : (rereadConditions s).port.requests = s.port.requests := by
  simp [rereadConditions]
@[simp] theorem rereadConditions_port_linkTimer : (rereadConditions s).port.linkTimer = s.port.linkTimer := by
  simp [rereadConditions]
@[simp] theorem rereadConditions_port_linkSilent : (rereadConditions s).port.linkSilent = s.port.linkSilent := by
  simp [rereadConditions]
@[simp] theorem rereadConditions_port_orderTimer : (rereadConditions s).port.orderTimer = s.port.orderTimer := by
  simp [rereadConditions]
@[simp] theorem rereadConditions_port_lastSent : (rereadConditions s).port.lastSent = s.port.lastSent := by
  simp [rereadConditions]

/-! ### moveToAction -/

@[simp] theorem moveToAction_now (src : Source) : (moveToAction src s).now = s.now := by
  simp [moveToAction]
@[simp] theorem moveToAction_pru (src : Source) : (moveToAction src s).pru = s.pru := by
  simp [moveToAction]
@[simp] theorem moveToAction_acu (src : Source) : (moveToAction src s).acu = s.acu := by
  simp [moveToAction]
@[simp] theorem moveToAction_cal (src : Source) : (moveToAction src s).cal = s.cal := by
  simp [moveToAction]
@[simp] theorem moveToAction_gens (src : Source) : (moveToAction src s).gens = s.gens := by
  simp [moveToAction]
@[simp] theorem moveToAction_emitters (src : Source) : (moveToAction src s).emitters = s.emitters := by
  simp [moveToAction]
@[simp] theorem moveToAction_monitors (src : Source) : (moveToAction src s).monitors = s.monitors := by
  simp [moveToAction]
@[simp] theorem moveToAction_snapshot (src : Source) : (moveToAction src s).snapshot = s.snapshot := by
  simp [moveToAction]
@[simp] theorem moveToAction_ctl (src : Source) : (moveToAction src s).ctl = s.ctl := by
  simp [moveToAction]
@[simp] theorem moveToAction_store (src : Source) : (moveToAction src s).store = s.store := by
  simp [moveToAction]
@[simp] theorem moveToAction_meas (src : Source) : (moveToAction src s).meas = s.meas := by
  simp [moveToAction]
@[simp] theorem moveToAction_receivers (src : Source) : (moveToAction src s).receivers = s.receivers := by
  simp [moveToAction]
@[simp] theorem moveToAction_pending (src : Source) : (moveToAction src s).pending = s.pending := by
  simp [moveToAction]
@[simp] theorem moveToAction_port_requests (src : Source) : (moveToAction src s).port.requests = s.port.requests := by
  simp [moveToAction]
@[simp] theorem moveToAction_port_linkTimer (src : Source) : (moveToAction src s).port.linkTimer = s.port.linkTimer := by
  simp [moveToAction]
@[simp] theorem moveToAction_port_linkSilent (src : Source) : (moveToAction src s).port.linkSilent = s.port.linkSilent := by
  simp [moveToAction]
@[simp] theorem moveToAction_port_orderTimer (src : Source) : (moveToAction src s).port.orderTimer = s.port.orderTimer := by
  simp [moveToAction]
@[simp] theorem moveToAction_port_lastSent (src : Source) : (moveToAction src s).port.lastSent = s.port.lastSent := by
  simp [moveToAction]

/-! ### startTimed -/

@[simp] theorem startTimed_now (src : Source) : (startTimed src s).now = s.now := by
  unfold startTimed; dsimp only; split
  · split <;> simp
  · rfl
@[simp] theorem startTimed_pru (src : Source) : (startTimed src s).pru = s.pru := by
  unfold startTimed; dsimp only; split
  · split <;> simp
  · rfl
@[simp] theorem startTimed_acu (src : Source) : (startTimed src s).acu = s.acu := by
  unfold startTimed; dsimp only; split
  · split <;> simp
  · rfl
@[simp] theorem startTimed_cal (src : Source) : (startTimed src s).cal = s.cal := by
  unfold startTimed; dsimp only; split
  · split <;> simp
  · rfl
@[simp] theorem startTimed_gens (src : Source) : (startTimed src s).gens = s.gens := by
  unfold startTimed; dsimp only; split
  · split <;> simp
  · rfl
@[simp] theorem startTimed_emitters (src : Source) : (startTimed src s).emitters = s.emitters := by
  unfold startTimed; dsimp only; split
  · split <;> simp
  · rfl
@[simp] theorem startTimed_monitors (src : Source) : (startTimed src s).monitors = s.monitors := by
  unfold startTimed; dsimp only; split
  · split <;> simp
  · rfl
@[simp] theorem startTimed_snapshot (src : Source) : (startTimed src s).snapshot = s.snapshot := by
  unfold startTimed; dsimp only; split
  · split <;> simp
  · rfl
@[simp] theorem startTimed_ctl (src : Source) : (startTimed src s).ctl = s.ctl := by
  unfold startTimed; dsimp only; split
  · split <;> simp
  · rfl
@[simp] theorem startTimed_store (src : Source) : (startTimed src s).store = s.store := by
  unfold startTimed; dsimp only; split
  · split <;> simp
  · rfl
@[simp] theorem startTimed_meas (src : Source) : (startTimed src s).meas = s.meas := by
  unfold startTimed; dsimp only; split
  · split <;> simp
  · rfl
@[simp] theorem startTimed_receivers (src : Source) : (startTimed src s).receivers = s.receivers := by
  unfold startTimed; dsimp only; split
  · split <;> simp
  · rfl
@[simp] theorem startTimed_pending (src : Source) : (startTimed src s).pending = s.pending := by
  unfold startTimed; dsimp only; split
  · split <;> simp
  · rfl
@[simp] theorem startTimed_port_requests (src : Source) : (startTimed src s).port.requests = s.port.requests := by
  unfold startTimed; dsimp only; split
  · split <;> simp
  · rfl
@[simp] theorem startTimed_port_linkTimer (src : Source) : (startTimed src s).port.linkTimer = s.port.linkTimer := by
  unfold startTimed; dsimp only; split
  · split <;> simp
  · rfl
@[simp] theorem startTimed_port_linkSilent (src : Source) : (startTimed src s).port.linkSilent = s.port.linkSilent := by
  unfold startTimed; dsimp only; split
  · split <;> simp
  · rfl
@[simp] theorem startTimed_port_orderTimer (src : Source) : (startTimed src s).port.orderTimer = s.port.orderTimer := by
  unfold startTimed; dsimp only; split
  · split <;> simp
  · rfl
@[simp] theorem startTimed_port_lastSent (src : Source) : (startTimed src s).port.lastSent = s.port.lastSent := by
  unfold startTimed; dsimp only; split
  · split <;> simp
  · rfl

/-- The resolver's operations read no condition but from blocks that they do not write. -/
theorem conditionHolds_congr {s t : State} (h1 : t.pru = s.pru) (h2 : t.ctl = s.ctl) (h3 : t.meas = s.meas)
    (h4 : t.monitors = s.monitors) (h5 : t.store = s.store) (h6 : t.port.linkSilent = s.port.linkSilent)
    (h7 : t.port.orderTimer = s.port.orderTimer) (src : Source) : conditionHolds t src = conditionHolds s src := by
  cases src <;> simp [conditionHolds, levelDegraded, failedCount, h1, h2, h3, h4, h5, h6, h7] <;> rfl

/-- A notice adds at most its record, never beyond 32 (R166). -/
theorem notify_outgoing (r : OutRecord) : (notify r s).port.outgoing =
    if s.port.outgoing.length < 32 then s.port.outgoing ++ [r] else s.port.outgoing := by
  unfold notify Config.outgoingCapacity appendRecord; split <;> rfl

/-- The position of the sources after an edge: PENDING from IDLE, and otherwise only a repeat mark (R100). -/
theorem raiseEdge_cases (src : Source) :
    (isInAction s src = true ∧
      raiseEdge src s = { s with prot := { s.prot with repeats := putSource s.prot.repeats src true } }) ∨
    (isInAction s src = false ∧
      raiseEdge src s = { s with prot := { s.prot with waiting := putSource s.prot.waiting src true } }) := by
  unfold raiseEdge makePending; split <;> simp_all

/-- A re-reading of conditions that are in step changes nothing (R101). -/
theorem rereadConditions_of_inStep (h : ∀ src, isEdgeSource src = false →
    (conditionHolds s src = true → isPending s src = true ∨ isInAction s src = true) ∧
    (conditionHolds s src = false →
      isPending s src = false ∧ (isClearedSource src = true → isInAction s src = false))) :
    rereadConditions s = s := by
  have one : ∀ src, isEdgeSource src = false → rereadOne src s = s := by
    intro src he
    obtain ⟨ht, hf⟩ := h src he
    unfold rereadOne
    split
    · rename_i hc
      split
      · rfl
      · rename_i hi
        have hp := (ht hc).resolve_right hi
        unfold makePending
        rw [putSource_same _ _ _ (by simpa [isPending] using hp)]
    · rename_i hc
      obtain ⟨hp, hcl⟩ := hf (by simpa using hc)
      split
      · rename_i hi
        split
        · rename_i hk; simp [hcl hk] at hi
        · rfl
      · unfold withdraw
        rw [putSource_same _ _ _ (by simpa [isPending] using hp)]
  simp [rereadConditions, one .phaseLost rfl, one .linkLost rfl, one .measureStale rfl, one .levelDegraded rfl,
    one .orderStale rfl]


end Sys2Proof.Machine
end

