-- ==== Sys2Proof/Laws/Converter.lean ====
section
/-! SUPPORT. What the converter's changes of state and the resolver's grants keep, and where `settle` changes nothing but the
resolver and what is to be sent. -/

namespace Sys2Proof.Machine

variable (s : State)

/-! ### Frames -/


/-! ### changeState -/

@[simp] theorem changeState_now (c : ConvState) (u : StateCause) (v : Option Valve) : (changeState c u v s).now = s.now := by
  simp [changeState]
@[simp] theorem changeState_pru (c : ConvState) (u : StateCause) (v : Option Valve) : (changeState c u v s).pru = s.pru := by
  simp [changeState]
@[simp] theorem changeState_store (c : ConvState) (u : StateCause) (v : Option Valve) : (changeState c u v s).store = s.store := by
  simp [changeState]
@[simp] theorem changeState_meas (c : ConvState) (u : StateCause) (v : Option Valve) : (changeState c u v s).meas = s.meas := by
  simp [changeState]
@[simp] theorem changeState_snapshot (c : ConvState) (u : StateCause) (v : Option Valve) : (changeState c u v s).snapshot = s.snapshot := by
  simp [changeState]
@[simp] theorem changeState_receivers (c : ConvState) (u : StateCause) (v : Option Valve) : (changeState c u v s).receivers = s.receivers := by
  simp [changeState]
@[simp] theorem changeState_pending (c : ConvState) (u : StateCause) (v : Option Valve) : (changeState c u v s).pending = s.pending := by
  simp [changeState]
@[simp] theorem changeState_port_requests (c : ConvState) (u : StateCause) (v : Option Valve) : (changeState c u v s).port.requests = s.port.requests := by
  simp [changeState]
@[simp] theorem changeState_port_linkTimer (c : ConvState) (u : StateCause) (v : Option Valve) : (changeState c u v s).port.linkTimer = s.port.linkTimer := by
  simp [changeState]
@[simp] theorem changeState_port_linkSilent (c : ConvState) (u : StateCause) (v : Option Valve) : (changeState c u v s).port.linkSilent = s.port.linkSilent := by
  simp [changeState]
@[simp] theorem changeState_port_orderTimer (c : ConvState) (u : StateCause) (v : Option Valve) : (changeState c u v s).port.orderTimer = s.port.orderTimer := by
  simp [changeState]
@[simp] theorem changeState_port_lastSent (c : ConvState) (u : StateCause) (v : Option Valve) : (changeState c u v s).port.lastSent = s.port.lastSent := by
  simp [changeState]
@[simp] theorem changeState_acu (c : ConvState) (u : StateCause) (v : Option Valve) : (changeState c u v s).acu = s.acu := by
  simp [changeState]
@[simp] theorem changeState_cal (c : ConvState) (u : StateCause) (v : Option Valve) : (changeState c u v s).cal = s.cal := by
  simp [changeState]
@[simp] theorem changeState_gens (c : ConvState) (u : StateCause) (v : Option Valve) : (changeState c u v s).gens = s.gens := by
  simp [changeState]
@[simp] theorem changeState_emitters (c : ConvState) (u : StateCause) (v : Option Valve) : (changeState c u v s).emitters = s.emitters := by
  simp [changeState]
@[simp] theorem changeState_monitors (c : ConvState) (u : StateCause) (v : Option Valve) : (changeState c u v s).monitors = s.monitors := by
  simp [changeState]

/-! ### enterBlocked -/

@[simp] theorem enterBlocked_now (u : StateCause) (v : Option Valve) : (enterBlocked u v s).now = s.now := by
  simp [enterBlocked]
@[simp] theorem enterBlocked_pru (u : StateCause) (v : Option Valve) : (enterBlocked u v s).pru = s.pru := by
  simp [enterBlocked]
@[simp] theorem enterBlocked_store (u : StateCause) (v : Option Valve) : (enterBlocked u v s).store = s.store := by
  simp [enterBlocked]
@[simp] theorem enterBlocked_meas (u : StateCause) (v : Option Valve) : (enterBlocked u v s).meas = s.meas := by
  simp [enterBlocked]
@[simp] theorem enterBlocked_snapshot (u : StateCause) (v : Option Valve) : (enterBlocked u v s).snapshot = s.snapshot := by
  simp [enterBlocked]
@[simp] theorem enterBlocked_receivers (u : StateCause) (v : Option Valve) : (enterBlocked u v s).receivers = s.receivers := by
  simp [enterBlocked]
@[simp] theorem enterBlocked_pending (u : StateCause) (v : Option Valve) : (enterBlocked u v s).pending = s.pending := by
  simp [enterBlocked]
@[simp] theorem enterBlocked_port_requests (u : StateCause) (v : Option Valve) : (enterBlocked u v s).port.requests = s.port.requests := by
  simp [enterBlocked]
@[simp] theorem enterBlocked_port_linkTimer (u : StateCause) (v : Option Valve) : (enterBlocked u v s).port.linkTimer = s.port.linkTimer := by
  simp [enterBlocked]
@[simp] theorem enterBlocked_port_linkSilent (u : StateCause) (v : Option Valve) : (enterBlocked u v s).port.linkSilent = s.port.linkSilent := by
  simp [enterBlocked]
@[simp] theorem enterBlocked_port_orderTimer (u : StateCause) (v : Option Valve) : (enterBlocked u v s).port.orderTimer = s.port.orderTimer := by
  simp [enterBlocked]
@[simp] theorem enterBlocked_port_lastSent (u : StateCause) (v : Option Valve) : (enterBlocked u v s).port.lastSent = s.port.lastSent := by
  simp [enterBlocked]
@[simp] theorem enterBlocked_acu_active (u : StateCause) (v : Option Valve) : (enterBlocked u v s).acu.active = s.acu.active := by
  simp [enterBlocked]
@[simp] theorem enterBlocked_acu_waiting (u : StateCause) (v : Option Valve) : (enterBlocked u v s).acu.waiting = s.acu.waiting := by
  simp [enterBlocked]
@[simp] theorem enterBlocked_acu_aPrev (u : StateCause) (v : Option Valve) : (enterBlocked u v s).acu.aPrev = s.acu.aPrev := by
  simp [enterBlocked]
@[simp] theorem enterBlocked_acu_cfpMargin (u : StateCause) (v : Option Valve) : (enterBlocked u v s).acu.cfpMargin = s.acu.cfpMargin := by
  simp [enterBlocked]
@[simp] theorem enterBlocked_acu_cfpHold (u : StateCause) (v : Option Valve) : (enterBlocked u v s).acu.cfpHold = s.acu.cfpHold := by
  simp [enterBlocked]
@[simp] theorem enterBlocked_emitters (u : StateCause) (v : Option Valve) : (enterBlocked u v s).emitters = s.emitters := by
  simp [enterBlocked]
@[simp] theorem enterBlocked_monitors (u : StateCause) (v : Option Valve) : (enterBlocked u v s).monitors = s.monitors := by
  simp [enterBlocked]
@[simp] theorem enterBlocked_cal_created (u : StateCause) (v : Option Valve) : (enterBlocked u v s).cal.created = s.cal.created := by
  simp [enterBlocked]
@[simp] theorem enterBlocked_cal_fired (u : StateCause) (v : Option Valve) : (enterBlocked u v s).cal.fired = s.cal.fired := by
  simp [enterBlocked]
@[simp] theorem enterBlocked_cal_ring (u : StateCause) (v : Option Valve) : (enterBlocked u v s).cal.ring = s.cal.ring := by
  simp [enterBlocked]

/-! ### enterPrecheck -/

@[simp] theorem enterPrecheck_now : (enterPrecheck s).now = s.now := by
  simp [enterPrecheck]
@[simp] theorem enterPrecheck_pru : (enterPrecheck s).pru = s.pru := by
  simp [enterPrecheck]
@[simp] theorem enterPrecheck_store : (enterPrecheck s).store = s.store := by
  simp [enterPrecheck]
@[simp] theorem enterPrecheck_meas : (enterPrecheck s).meas = s.meas := by
  simp [enterPrecheck]
@[simp] theorem enterPrecheck_snapshot : (enterPrecheck s).snapshot = s.snapshot := by
  simp [enterPrecheck]
@[simp] theorem enterPrecheck_receivers : (enterPrecheck s).receivers = s.receivers := by
  simp [enterPrecheck]
@[simp] theorem enterPrecheck_pending : (enterPrecheck s).pending = s.pending := by
  simp [enterPrecheck]
@[simp] theorem enterPrecheck_port_requests : (enterPrecheck s).port.requests = s.port.requests := by
  simp [enterPrecheck]
@[simp] theorem enterPrecheck_port_linkTimer : (enterPrecheck s).port.linkTimer = s.port.linkTimer := by
  simp [enterPrecheck]
@[simp] theorem enterPrecheck_port_linkSilent : (enterPrecheck s).port.linkSilent = s.port.linkSilent := by
  simp [enterPrecheck]
@[simp] theorem enterPrecheck_port_orderTimer : (enterPrecheck s).port.orderTimer = s.port.orderTimer := by
  simp [enterPrecheck]
@[simp] theorem enterPrecheck_port_lastSent : (enterPrecheck s).port.lastSent = s.port.lastSent := by
  simp [enterPrecheck]
@[simp] theorem enterPrecheck_acu : (enterPrecheck s).acu = s.acu := by
  simp [enterPrecheck]
@[simp] theorem enterPrecheck_cal : (enterPrecheck s).cal = s.cal := by
  simp [enterPrecheck]
@[simp] theorem enterPrecheck_gens : (enterPrecheck s).gens = s.gens := by
  simp [enterPrecheck]

/-! ### enterRunning -/

@[simp] theorem enterRunning_now (u : StateCause) : (enterRunning u s).now = s.now := by
  simp [enterRunning]
@[simp] theorem enterRunning_pru (u : StateCause) : (enterRunning u s).pru = s.pru := by
  simp [enterRunning]
@[simp] theorem enterRunning_store (u : StateCause) : (enterRunning u s).store = s.store := by
  simp [enterRunning]
@[simp] theorem enterRunning_meas (u : StateCause) : (enterRunning u s).meas = s.meas := by
  simp [enterRunning]
@[simp] theorem enterRunning_snapshot (u : StateCause) : (enterRunning u s).snapshot = s.snapshot := by
  simp [enterRunning]
@[simp] theorem enterRunning_receivers (u : StateCause) : (enterRunning u s).receivers = s.receivers := by
  simp [enterRunning]
@[simp] theorem enterRunning_pending (u : StateCause) : (enterRunning u s).pending = s.pending := by
  simp [enterRunning]
@[simp] theorem enterRunning_port_requests (u : StateCause) : (enterRunning u s).port.requests = s.port.requests := by
  simp [enterRunning]
@[simp] theorem enterRunning_port_linkTimer (u : StateCause) : (enterRunning u s).port.linkTimer = s.port.linkTimer := by
  simp [enterRunning]
@[simp] theorem enterRunning_port_linkSilent (u : StateCause) : (enterRunning u s).port.linkSilent = s.port.linkSilent := by
  simp [enterRunning]
@[simp] theorem enterRunning_port_orderTimer (u : StateCause) : (enterRunning u s).port.orderTimer = s.port.orderTimer := by
  simp [enterRunning]
@[simp] theorem enterRunning_port_lastSent (u : StateCause) : (enterRunning u s).port.lastSent = s.port.lastSent := by
  simp [enterRunning]
@[simp] theorem enterRunning_cal (u : StateCause) : (enterRunning u s).cal = s.cal := by
  simp [enterRunning]
@[simp] theorem enterRunning_gens (u : StateCause) : (enterRunning u s).gens = s.gens := by
  simp [enterRunning]
@[simp] theorem enterRunning_emitters (u : StateCause) : (enterRunning u s).emitters = s.emitters := by
  simp [enterRunning]
@[simp] theorem enterRunning_acu_active (u : StateCause) : (enterRunning u s).acu.active = s.acu.active := by
  simp [enterRunning]
@[simp] theorem enterRunning_acu_waiting (u : StateCause) : (enterRunning u s).acu.waiting = s.acu.waiting := by
  simp [enterRunning]
@[simp] theorem enterRunning_acu_testAngle (u : StateCause) : (enterRunning u s).acu.testAngle = s.acu.testAngle := by
  simp [enterRunning]
@[simp] theorem enterRunning_acu_cfpMargin (u : StateCause) : (enterRunning u s).acu.cfpMargin = s.acu.cfpMargin := by
  simp [enterRunning]
@[simp] theorem enterRunning_acu_cfpHold (u : StateCause) : (enterRunning u s).acu.cfpHold = s.acu.cfpHold := by
  simp [enterRunning]

/-! ### enterBypass -/

@[simp] theorem enterBypass_now (u : StateCause) : (enterBypass u s).now = s.now := by
  simp [enterBypass]
@[simp] theorem enterBypass_pru (u : StateCause) : (enterBypass u s).pru = s.pru := by
  simp [enterBypass]
@[simp] theorem enterBypass_store (u : StateCause) : (enterBypass u s).store = s.store := by
  simp [enterBypass]
@[simp] theorem enterBypass_meas (u : StateCause) : (enterBypass u s).meas = s.meas := by
  simp [enterBypass]
@[simp] theorem enterBypass_snapshot (u : StateCause) : (enterBypass u s).snapshot = s.snapshot := by
  simp [enterBypass]
@[simp] theorem enterBypass_receivers (u : StateCause) : (enterBypass u s).receivers = s.receivers := by
  simp [enterBypass]
@[simp] theorem enterBypass_pending (u : StateCause) : (enterBypass u s).pending = s.pending := by
  simp [enterBypass]
@[simp] theorem enterBypass_port_requests (u : StateCause) : (enterBypass u s).port.requests = s.port.requests := by
  simp [enterBypass]
@[simp] theorem enterBypass_port_linkTimer (u : StateCause) : (enterBypass u s).port.linkTimer = s.port.linkTimer := by
  simp [enterBypass]
@[simp] theorem enterBypass_port_linkSilent (u : StateCause) : (enterBypass u s).port.linkSilent = s.port.linkSilent := by
  simp [enterBypass]
@[simp] theorem enterBypass_port_orderTimer (u : StateCause) : (enterBypass u s).port.orderTimer = s.port.orderTimer := by
  simp [enterBypass]
@[simp] theorem enterBypass_port_lastSent (u : StateCause) : (enterBypass u s).port.lastSent = s.port.lastSent := by
  simp [enterBypass]
@[simp] theorem enterBypass_acu (u : StateCause) : (enterBypass u s).acu = s.acu := by
  simp [enterBypass]

/-! ### enterRetard -/

@[simp] theorem enterRetard_now (u : StateCause) : (enterRetard u s).now = s.now := by
  unfold enterRetard; dsimp only; split <;> simp
@[simp] theorem enterRetard_pru (u : StateCause) : (enterRetard u s).pru = s.pru := by
  unfold enterRetard; dsimp only; split <;> simp
@[simp] theorem enterRetard_store (u : StateCause) : (enterRetard u s).store = s.store := by
  unfold enterRetard; dsimp only; split <;> simp
@[simp] theorem enterRetard_meas (u : StateCause) : (enterRetard u s).meas = s.meas := by
  unfold enterRetard; dsimp only; split <;> simp
@[simp] theorem enterRetard_snapshot (u : StateCause) : (enterRetard u s).snapshot = s.snapshot := by
  unfold enterRetard; dsimp only; split <;> simp
@[simp] theorem enterRetard_receivers (u : StateCause) : (enterRetard u s).receivers = s.receivers := by
  unfold enterRetard; dsimp only; split <;> simp
@[simp] theorem enterRetard_pending (u : StateCause) : (enterRetard u s).pending = s.pending := by
  unfold enterRetard; dsimp only; split <;> simp
@[simp] theorem enterRetard_port_requests (u : StateCause) : (enterRetard u s).port.requests = s.port.requests := by
  unfold enterRetard; dsimp only; split <;> simp
@[simp] theorem enterRetard_port_linkTimer (u : StateCause) : (enterRetard u s).port.linkTimer = s.port.linkTimer := by
  unfold enterRetard; dsimp only; split <;> simp
@[simp] theorem enterRetard_port_linkSilent (u : StateCause) : (enterRetard u s).port.linkSilent = s.port.linkSilent := by
  unfold enterRetard; dsimp only; split <;> simp
@[simp] theorem enterRetard_port_orderTimer (u : StateCause) : (enterRetard u s).port.orderTimer = s.port.orderTimer := by
  unfold enterRetard; dsimp only; split <;> simp
@[simp] theorem enterRetard_port_lastSent (u : StateCause) : (enterRetard u s).port.lastSent = s.port.lastSent := by
  unfold enterRetard; dsimp only; split <;> simp
@[simp] theorem enterRetard_acu_active (u : StateCause) : (enterRetard u s).acu.active = s.acu.active := by
  unfold enterRetard; dsimp only; split <;> simp
@[simp] theorem enterRetard_acu_waiting (u : StateCause) : (enterRetard u s).acu.waiting = s.acu.waiting := by
  unfold enterRetard; dsimp only; split <;> simp
@[simp] theorem enterRetard_acu_aPrev (u : StateCause) : (enterRetard u s).acu.aPrev = s.acu.aPrev := by
  unfold enterRetard; dsimp only; split <;> simp
@[simp] theorem enterRetard_acu_cfpMargin (u : StateCause) : (enterRetard u s).acu.cfpMargin = s.acu.cfpMargin := by
  unfold enterRetard; dsimp only; split <;> simp
@[simp] theorem enterRetard_acu_cfpHold (u : StateCause) : (enterRetard u s).acu.cfpHold = s.acu.cfpHold := by
  unfold enterRetard; dsimp only; split <;> simp
@[simp] theorem enterRetard_emitters (u : StateCause) : (enterRetard u s).emitters = s.emitters := by
  unfold enterRetard; dsimp only; split <;> simp
@[simp] theorem enterRetard_monitors (u : StateCause) : (enterRetard u s).monitors = s.monitors := by
  unfold enterRetard; dsimp only; split <;> simp
@[simp] theorem enterRetard_cal_created (u : StateCause) : (enterRetard u s).cal.created = s.cal.created := by
  unfold enterRetard; dsimp only; split <;> simp
@[simp] theorem enterRetard_cal_fired (u : StateCause) : (enterRetard u s).cal.fired = s.cal.fired := by
  unfold enterRetard; dsimp only; split <;> simp
@[simp] theorem enterRetard_cal_ring (u : StateCause) : (enterRetard u s).cal.ring = s.cal.ring := by
  unfold enterRetard; dsimp only; split <;> simp

/-! ### enterTesting -/

@[simp] theorem enterTesting_now (u : StateCause) : (enterTesting u s).now = s.now := by
  simp [enterTesting]
@[simp] theorem enterTesting_pru (u : StateCause) : (enterTesting u s).pru = s.pru := by
  simp [enterTesting]
@[simp] theorem enterTesting_store (u : StateCause) : (enterTesting u s).store = s.store := by
  simp [enterTesting]
@[simp] theorem enterTesting_meas (u : StateCause) : (enterTesting u s).meas = s.meas := by
  simp [enterTesting]
@[simp] theorem enterTesting_snapshot (u : StateCause) : (enterTesting u s).snapshot = s.snapshot := by
  simp [enterTesting]
@[simp] theorem enterTesting_receivers (u : StateCause) : (enterTesting u s).receivers = s.receivers := by
  simp [enterTesting]
@[simp] theorem enterTesting_pending (u : StateCause) : (enterTesting u s).pending = s.pending := by
  simp [enterTesting]
@[simp] theorem enterTesting_port_requests (u : StateCause) : (enterTesting u s).port.requests = s.port.requests := by
  simp [enterTesting]
@[simp] theorem enterTesting_port_linkTimer (u : StateCause) : (enterTesting u s).port.linkTimer = s.port.linkTimer := by
  simp [enterTesting]
@[simp] theorem enterTesting_port_linkSilent (u : StateCause) : (enterTesting u s).port.linkSilent = s.port.linkSilent := by
  simp [enterTesting]
@[simp] theorem enterTesting_port_orderTimer (u : StateCause) : (enterTesting u s).port.orderTimer = s.port.orderTimer := by
  simp [enterTesting]
@[simp] theorem enterTesting_port_lastSent (u : StateCause) : (enterTesting u s).port.lastSent = s.port.lastSent := by
  simp [enterTesting]
@[simp] theorem enterTesting_acu (u : StateCause) : (enterTesting u s).acu = s.acu := by
  simp [enterTesting]
@[simp] theorem enterTesting_cal (u : StateCause) : (enterTesting u s).cal = s.cal := by
  simp [enterTesting]
@[simp] theorem enterTesting_gens (u : StateCause) : (enterTesting u s).gens = s.gens := by
  simp [enterTesting]
@[simp] theorem enterTesting_emitters (u : StateCause) : (enterTesting u s).emitters = s.emitters := by
  simp [enterTesting]

/-! ### enterTestHeld -/

@[simp] theorem enterTestHeld_now : (enterTestHeld s).now = s.now := by
  simp [enterTestHeld]
@[simp] theorem enterTestHeld_pru : (enterTestHeld s).pru = s.pru := by
  simp [enterTestHeld]
@[simp] theorem enterTestHeld_store : (enterTestHeld s).store = s.store := by
  simp [enterTestHeld]
@[simp] theorem enterTestHeld_meas : (enterTestHeld s).meas = s.meas := by
  simp [enterTestHeld]
@[simp] theorem enterTestHeld_snapshot : (enterTestHeld s).snapshot = s.snapshot := by
  simp [enterTestHeld]
@[simp] theorem enterTestHeld_receivers : (enterTestHeld s).receivers = s.receivers := by
  simp [enterTestHeld]
@[simp] theorem enterTestHeld_pending : (enterTestHeld s).pending = s.pending := by
  simp [enterTestHeld]
@[simp] theorem enterTestHeld_port_requests : (enterTestHeld s).port.requests = s.port.requests := by
  simp [enterTestHeld]
@[simp] theorem enterTestHeld_port_linkTimer : (enterTestHeld s).port.linkTimer = s.port.linkTimer := by
  simp [enterTestHeld]
@[simp] theorem enterTestHeld_port_linkSilent : (enterTestHeld s).port.linkSilent = s.port.linkSilent := by
  simp [enterTestHeld]
@[simp] theorem enterTestHeld_port_orderTimer : (enterTestHeld s).port.orderTimer = s.port.orderTimer := by
  simp [enterTestHeld]
@[simp] theorem enterTestHeld_port_lastSent : (enterTestHeld s).port.lastSent = s.port.lastSent := by
  simp [enterTestHeld]
@[simp] theorem enterTestHeld_acu : (enterTestHeld s).acu = s.acu := by
  simp [enterTestHeld]
@[simp] theorem enterTestHeld_emitters : (enterTestHeld s).emitters = s.emitters := by
  simp [enterTestHeld]
@[simp] theorem enterTestHeld_monitors : (enterTestHeld s).monitors = s.monitors := by
  simp [enterTestHeld]
@[simp] theorem enterTestHeld_cal_created : (enterTestHeld s).cal.created = s.cal.created := by
  simp [enterTestHeld]
@[simp] theorem enterTestHeld_cal_fired : (enterTestHeld s).cal.fired = s.cal.fired := by
  simp [enterTestHeld]
@[simp] theorem enterTestHeld_cal_ring : (enterTestHeld s).cal.ring = s.cal.ring := by
  simp [enterTestHeld]

/-! ### endTestRun -/

@[simp] theorem endTestRun_now : (endTestRun s).now = s.now := by
  unfold endTestRun; split <;> simp
@[simp] theorem endTestRun_pru : (endTestRun s).pru = s.pru := by
  unfold endTestRun; split <;> simp
@[simp] theorem endTestRun_store : (endTestRun s).store = s.store := by
  unfold endTestRun; split <;> simp
@[simp] theorem endTestRun_meas : (endTestRun s).meas = s.meas := by
  unfold endTestRun; split <;> simp
@[simp] theorem endTestRun_snapshot : (endTestRun s).snapshot = s.snapshot := by
  unfold endTestRun; split <;> simp
@[simp] theorem endTestRun_receivers : (endTestRun s).receivers = s.receivers := by
  unfold endTestRun; split <;> simp
@[simp] theorem endTestRun_pending : (endTestRun s).pending = s.pending := by
  unfold endTestRun; split <;> simp
@[simp] theorem endTestRun_port_requests : (endTestRun s).port.requests = s.port.requests := by
  unfold endTestRun; split <;> simp
@[simp] theorem endTestRun_port_linkTimer : (endTestRun s).port.linkTimer = s.port.linkTimer := by
  unfold endTestRun; split <;> simp
@[simp] theorem endTestRun_port_linkSilent : (endTestRun s).port.linkSilent = s.port.linkSilent := by
  unfold endTestRun; split <;> simp
@[simp] theorem endTestRun_port_orderTimer : (endTestRun s).port.orderTimer = s.port.orderTimer := by
  unfold endTestRun; split <;> simp
@[simp] theorem endTestRun_port_lastSent : (endTestRun s).port.lastSent = s.port.lastSent := by
  unfold endTestRun; split <;> simp
@[simp] theorem endTestRun_acu_active : (endTestRun s).acu.active = s.acu.active := by
  unfold endTestRun; split <;> simp
@[simp] theorem endTestRun_acu_waiting : (endTestRun s).acu.waiting = s.acu.waiting := by
  unfold endTestRun; split <;> simp
@[simp] theorem endTestRun_acu_aPrev : (endTestRun s).acu.aPrev = s.acu.aPrev := by
  unfold endTestRun; split <;> simp
@[simp] theorem endTestRun_acu_cfpMargin : (endTestRun s).acu.cfpMargin = s.acu.cfpMargin := by
  unfold endTestRun; split <;> simp
@[simp] theorem endTestRun_acu_cfpHold : (endTestRun s).acu.cfpHold = s.acu.cfpHold := by
  unfold endTestRun; split <;> simp
@[simp] theorem endTestRun_emitters : (endTestRun s).emitters = s.emitters := by
  unfold endTestRun; split <;> simp
@[simp] theorem endTestRun_monitors : (endTestRun s).monitors = s.monitors := by
  unfold endTestRun; split <;> simp
@[simp] theorem endTestRun_cal_created : (endTestRun s).cal.created = s.cal.created := by
  unfold endTestRun; split <;> simp
@[simp] theorem endTestRun_cal_fired : (endTestRun s).cal.fired = s.cal.fired := by
  unfold endTestRun; split <;> simp
@[simp] theorem endTestRun_cal_ring : (endTestRun s).cal.ring = s.cal.ring := by
  unfold endTestRun; split <;> simp

/-! ### stopDemand -/

@[simp] theorem stopDemand_now (src : Source) : (stopDemand src s).now = s.now := by
  unfold stopDemand; repeat' split
  all_goals simp
@[simp] theorem stopDemand_pru (src : Source) : (stopDemand src s).pru = s.pru := by
  unfold stopDemand; repeat' split
  all_goals simp
@[simp] theorem stopDemand_store (src : Source) : (stopDemand src s).store = s.store := by
  unfold stopDemand; repeat' split
  all_goals simp
@[simp] theorem stopDemand_meas (src : Source) : (stopDemand src s).meas = s.meas := by
  unfold stopDemand; repeat' split
  all_goals simp
@[simp] theorem stopDemand_snapshot (src : Source) : (stopDemand src s).snapshot = s.snapshot := by
  unfold stopDemand; repeat' split
  all_goals simp
@[simp] theorem stopDemand_receivers (src : Source) : (stopDemand src s).receivers = s.receivers := by
  unfold stopDemand; repeat' split
  all_goals simp
@[simp] theorem stopDemand_pending (src : Source) : (stopDemand src s).pending = s.pending := by
  unfold stopDemand; repeat' split
  all_goals simp
@[simp] theorem stopDemand_port_requests (src : Source) : (stopDemand src s).port.requests = s.port.requests := by
  unfold stopDemand; repeat' split
  all_goals simp
@[simp] theorem stopDemand_port_linkTimer (src : Source) : (stopDemand src s).port.linkTimer = s.port.linkTimer := by
  unfold stopDemand; repeat' split
  all_goals simp
@[simp] theorem stopDemand_port_linkSilent (src : Source) : (stopDemand src s).port.linkSilent = s.port.linkSilent := by
  unfold stopDemand; repeat' split
  all_goals simp
@[simp] theorem stopDemand_port_orderTimer (src : Source) : (stopDemand src s).port.orderTimer = s.port.orderTimer := by
  unfold stopDemand; repeat' split
  all_goals simp
@[simp] theorem stopDemand_port_lastSent (src : Source) : (stopDemand src s).port.lastSent = s.port.lastSent := by
  unfold stopDemand; repeat' split
  all_goals simp
@[simp] theorem stopDemand_acu_active (src : Source) : (stopDemand src s).acu.active = s.acu.active := by
  unfold stopDemand; repeat' split
  all_goals simp
@[simp] theorem stopDemand_acu_waiting (src : Source) : (stopDemand src s).acu.waiting = s.acu.waiting := by
  unfold stopDemand; repeat' split
  all_goals simp
@[simp] theorem stopDemand_acu_aPrev (src : Source) : (stopDemand src s).acu.aPrev = s.acu.aPrev := by
  unfold stopDemand; repeat' split
  all_goals simp
@[simp] theorem stopDemand_acu_cfpMargin (src : Source) : (stopDemand src s).acu.cfpMargin = s.acu.cfpMargin := by
  unfold stopDemand; repeat' split
  all_goals simp
@[simp] theorem stopDemand_acu_cfpHold (src : Source) : (stopDemand src s).acu.cfpHold = s.acu.cfpHold := by
  unfold stopDemand; repeat' split
  all_goals simp

/-! ### startAction -/

@[simp] theorem startAction_now (src : Source) : (startAction src s).now = s.now := by
  unfold startAction; split <;> simp
@[simp] theorem startAction_pru (src : Source) : (startAction src s).pru = s.pru := by
  unfold startAction; split <;> simp
@[simp] theorem startAction_store (src : Source) : (startAction src s).store = s.store := by
  unfold startAction; split <;> simp
@[simp] theorem startAction_meas (src : Source) : (startAction src s).meas = s.meas := by
  unfold startAction; split <;> simp
@[simp] theorem startAction_snapshot (src : Source) : (startAction src s).snapshot = s.snapshot := by
  unfold startAction; split <;> simp
@[simp] theorem startAction_receivers (src : Source) : (startAction src s).receivers = s.receivers := by
  unfold startAction; split <;> simp
@[simp] theorem startAction_pending (src : Source) : (startAction src s).pending = s.pending := by
  unfold startAction; split <;> simp
@[simp] theorem startAction_port_requests (src : Source) : (startAction src s).port.requests = s.port.requests := by
  unfold startAction; split <;> simp
@[simp] theorem startAction_port_linkTimer (src : Source) : (startAction src s).port.linkTimer = s.port.linkTimer := by
  unfold startAction; split <;> simp
@[simp] theorem startAction_port_linkSilent (src : Source) : (startAction src s).port.linkSilent = s.port.linkSilent := by
  unfold startAction; split <;> simp
@[simp] theorem startAction_port_orderTimer (src : Source) : (startAction src s).port.orderTimer = s.port.orderTimer := by
  unfold startAction; split <;> simp
@[simp] theorem startAction_port_lastSent (src : Source) : (startAction src s).port.lastSent = s.port.lastSent := by
  unfold startAction; split <;> simp
@[simp] theorem startAction_acu_active (src : Source) : (startAction src s).acu.active = s.acu.active := by
  unfold startAction; split <;> simp
@[simp] theorem startAction_acu_waiting (src : Source) : (startAction src s).acu.waiting = s.acu.waiting := by
  unfold startAction; split <;> simp
@[simp] theorem startAction_acu_aPrev (src : Source) : (startAction src s).acu.aPrev = s.acu.aPrev := by
  unfold startAction; split <;> simp
@[simp] theorem startAction_acu_cfpMargin (src : Source) : (startAction src s).acu.cfpMargin = s.acu.cfpMargin := by
  unfold startAction; split <;> simp
@[simp] theorem startAction_acu_cfpHold (src : Source) : (startAction src s).acu.cfpHold = s.acu.cfpHold := by
  unfold startAction; split <;> simp

/-! ### grantOne -/

@[simp] theorem grantOne_now (src : Source) : (grantOne src s).now = s.now := by
  simp [grantOne]
@[simp] theorem grantOne_pru (src : Source) : (grantOne src s).pru = s.pru := by
  simp [grantOne]
@[simp] theorem grantOne_store (src : Source) : (grantOne src s).store = s.store := by
  simp [grantOne]
@[simp] theorem grantOne_meas (src : Source) : (grantOne src s).meas = s.meas := by
  simp [grantOne]
@[simp] theorem grantOne_snapshot (src : Source) : (grantOne src s).snapshot = s.snapshot := by
  simp [grantOne]
@[simp] theorem grantOne_receivers (src : Source) : (grantOne src s).receivers = s.receivers := by
  simp [grantOne]
@[simp] theorem grantOne_pending (src : Source) : (grantOne src s).pending = s.pending := by
  simp [grantOne]
@[simp] theorem grantOne_port_requests (src : Source) : (grantOne src s).port.requests = s.port.requests := by
  simp [grantOne]
@[simp] theorem grantOne_port_linkTimer (src : Source) : (grantOne src s).port.linkTimer = s.port.linkTimer := by
  simp [grantOne]
@[simp] theorem grantOne_port_linkSilent (src : Source) : (grantOne src s).port.linkSilent = s.port.linkSilent := by
  simp [grantOne]
@[simp] theorem grantOne_port_orderTimer (src : Source) : (grantOne src s).port.orderTimer = s.port.orderTimer := by
  simp [grantOne]
@[simp] theorem grantOne_port_lastSent (src : Source) : (grantOne src s).port.lastSent = s.port.lastSent := by
  simp [grantOne]
@[simp] theorem grantOne_acu_active (src : Source) : (grantOne src s).acu.active = s.acu.active := by
  simp [grantOne]
@[simp] theorem grantOne_acu_waiting (src : Source) : (grantOne src s).acu.waiting = s.acu.waiting := by
  simp [grantOne]
@[simp] theorem grantOne_acu_aPrev (src : Source) : (grantOne src s).acu.aPrev = s.acu.aPrev := by
  simp [grantOne]
@[simp] theorem grantOne_acu_cfpMargin (src : Source) : (grantOne src s).acu.cfpMargin = s.acu.cfpMargin := by
  simp [grantOne]
@[simp] theorem grantOne_acu_cfpHold (src : Source) : (grantOne src s).acu.cfpHold = s.acu.cfpHold := by
  simp [grantOne]

/-! ### grantLoop and settle -/

@[simp] theorem grantLoop_now (n : Nat) (s : State) : (grantLoop n s).now = s.now := by
  induction n generalizing s with
  | zero => rfl
  | succ n ih => unfold grantLoop; split <;> simp [ih]
@[simp] theorem grantLoop_pru (n : Nat) (s : State) : (grantLoop n s).pru = s.pru := by
  induction n generalizing s with
  | zero => rfl
  | succ n ih => unfold grantLoop; split <;> simp [ih]
@[simp] theorem grantLoop_store (n : Nat) (s : State) : (grantLoop n s).store = s.store := by
  induction n generalizing s with
  | zero => rfl
  | succ n ih => unfold grantLoop; split <;> simp [ih]
@[simp] theorem grantLoop_meas (n : Nat) (s : State) : (grantLoop n s).meas = s.meas := by
  induction n generalizing s with
  | zero => rfl
  | succ n ih => unfold grantLoop; split <;> simp [ih]
@[simp] theorem grantLoop_snapshot (n : Nat) (s : State) : (grantLoop n s).snapshot = s.snapshot := by
  induction n generalizing s with
  | zero => rfl
  | succ n ih => unfold grantLoop; split <;> simp [ih]
@[simp] theorem grantLoop_receivers (n : Nat) (s : State) : (grantLoop n s).receivers = s.receivers := by
  induction n generalizing s with
  | zero => rfl
  | succ n ih => unfold grantLoop; split <;> simp [ih]
@[simp] theorem grantLoop_pending (n : Nat) (s : State) : (grantLoop n s).pending = s.pending := by
  induction n generalizing s with
  | zero => rfl
  | succ n ih => unfold grantLoop; split <;> simp [ih]
@[simp] theorem grantLoop_port_requests (n : Nat) (s : State) : (grantLoop n s).port.requests = s.port.requests := by
  induction n generalizing s with
  | zero => rfl
  | succ n ih => unfold grantLoop; split <;> simp [ih]
@[simp] theorem grantLoop_port_linkTimer (n : Nat) (s : State) : (grantLoop n s).port.linkTimer = s.port.linkTimer := by
  induction n generalizing s with
  | zero => rfl
  | succ n ih => unfold grantLoop; split <;> simp [ih]
@[simp] theorem grantLoop_port_linkSilent (n : Nat) (s : State) : (grantLoop n s).port.linkSilent = s.port.linkSilent := by
  induction n generalizing s with
  | zero => rfl
  | succ n ih => unfold grantLoop; split <;> simp [ih]
@[simp] theorem grantLoop_port_orderTimer (n : Nat) (s : State) : (grantLoop n s).port.orderTimer = s.port.orderTimer := by
  induction n generalizing s with
  | zero => rfl
  | succ n ih => unfold grantLoop; split <;> simp [ih]
@[simp] theorem grantLoop_port_lastSent (n : Nat) (s : State) : (grantLoop n s).port.lastSent = s.port.lastSent := by
  induction n generalizing s with
  | zero => rfl
  | succ n ih => unfold grantLoop; split <;> simp [ih]
@[simp] theorem grantLoop_acu_active (n : Nat) (s : State) : (grantLoop n s).acu.active = s.acu.active := by
  induction n generalizing s with
  | zero => rfl
  | succ n ih => unfold grantLoop; split <;> simp [ih]
@[simp] theorem grantLoop_acu_waiting (n : Nat) (s : State) : (grantLoop n s).acu.waiting = s.acu.waiting := by
  induction n generalizing s with
  | zero => rfl
  | succ n ih => unfold grantLoop; split <;> simp [ih]
@[simp] theorem grantLoop_acu_aPrev (n : Nat) (s : State) : (grantLoop n s).acu.aPrev = s.acu.aPrev := by
  induction n generalizing s with
  | zero => rfl
  | succ n ih => unfold grantLoop; split <;> simp [ih]
@[simp] theorem grantLoop_acu_cfpMargin (n : Nat) (s : State) : (grantLoop n s).acu.cfpMargin = s.acu.cfpMargin := by
  induction n generalizing s with
  | zero => rfl
  | succ n ih => unfold grantLoop; split <;> simp [ih]
@[simp] theorem grantLoop_acu_cfpHold (n : Nat) (s : State) : (grantLoop n s).acu.cfpHold = s.acu.cfpHold := by
  induction n generalizing s with
  | zero => rfl
  | succ n ih => unfold grantLoop; split <;> simp [ih]
@[simp] theorem settle_now : (settle s).now = s.now := by
  simp [settle]
@[simp] theorem settle_pru : (settle s).pru = s.pru := by
  simp [settle]
@[simp] theorem settle_store : (settle s).store = s.store := by
  simp [settle]
@[simp] theorem settle_meas : (settle s).meas = s.meas := by
  simp [settle]
@[simp] theorem settle_snapshot : (settle s).snapshot = s.snapshot := by
  simp [settle]
@[simp] theorem settle_receivers : (settle s).receivers = s.receivers := by
  simp [settle]
@[simp] theorem settle_pending : (settle s).pending = s.pending := by
  simp [settle]
@[simp] theorem settle_port_requests : (settle s).port.requests = s.port.requests := by
  simp [settle]
@[simp] theorem settle_port_linkTimer : (settle s).port.linkTimer = s.port.linkTimer := by
  simp [settle]
@[simp] theorem settle_port_linkSilent : (settle s).port.linkSilent = s.port.linkSilent := by
  simp [settle]
@[simp] theorem settle_port_orderTimer : (settle s).port.orderTimer = s.port.orderTimer := by
  simp [settle]
@[simp] theorem settle_port_lastSent : (settle s).port.lastSent = s.port.lastSent := by
  simp [settle]
@[simp] theorem settle_acu_active : (settle s).acu.active = s.acu.active := by
  simp [settle]
@[simp] theorem settle_acu_waiting : (settle s).acu.waiting = s.acu.waiting := by
  simp [settle]
@[simp] theorem settle_acu_aPrev : (settle s).acu.aPrev = s.acu.aPrev := by
  simp [settle]
@[simp] theorem settle_acu_cfpMargin : (settle s).acu.cfpMargin = s.acu.cfpMargin := by
  simp [settle]
@[simp] theorem settle_acu_cfpHold : (settle s).acu.cfpHold = s.acu.cfpHold := by
  simp [settle]

/-! ### Level entries -/

@[simp] theorem changeState_levels (c : ConvState) (u : StateCause) (w : Option Valve) (i : Nat) (hi : i < 12) :
    ((changeState c u w s).monitors[i]'hi).levels = (s.monitors[i]'hi).levels := by
  simp
@[simp] theorem enterBypass_levels (u : StateCause) (i : Nat) (hi : i < 12) :
    ((enterBypass u s).monitors[i]'hi).levels = (s.monitors[i]'hi).levels := by
  simp [enterBypass]
@[simp] theorem stopDemand_levels (src : Source) (i : Nat) (hi : i < 12) :
    ((stopDemand src s).monitors[i]'hi).levels = (s.monitors[i]'hi).levels := by
  unfold stopDemand; repeat' split
  all_goals simp
@[simp] theorem startAction_levels (src : Source) (i : Nat) (hi : i < 12) :
    ((startAction src s).monitors[i]'hi).levels = (s.monitors[i]'hi).levels := by
  unfold startAction; split <;> simp
@[simp] theorem grantOne_levels (src : Source) (i : Nat) (hi : i < 12) :
    ((grantOne src s).monitors[i]'hi).levels = (s.monitors[i]'hi).levels := by
  simp [grantOne]

@[simp] theorem grantLoop_levels (n : Nat) (s : State) (i : Nat) (hi : i < 12) :
    ((grantLoop n s).monitors[i]'hi).levels = (s.monitors[i]'hi).levels := by
  induction n generalizing s with
  | zero => rfl
  | succ n ih => cases hg : nextGrant s <;> simp [grantLoop, hg, ih]

/-- No grant changes a level entry. -/
@[simp] theorem settle_levels (i : Nat) (hi : i < 12) :
    ((settle s).monitors[i]'hi).levels = (s.monitors[i]'hi).levels := by
  simp [settle]

/-! ### The converter state after each change -/

@[simp] theorem changeState_state (c : ConvState) (u : StateCause) (v : Option Valve) :
    (changeState c u v s).ctl.state = c := by
  simp [changeState]

@[simp] theorem enterBlocked_state (u : StateCause) (v : Option Valve) :
    (enterBlocked u v s).ctl.state = .blocked := by
  simp [enterBlocked]

/-- The controller as a change of state leaves it: only the state is written (R117). -/
@[simp] theorem changeState_ctl (c : ConvState) (u : StateCause) (v : Option Valve) :
    (changeState c u v s).ctl = { s.ctl with state := c } := by
  simp [changeState]

/-! ### Where the resolver moves nothing -/

/-- A settled state is a fixed point: an event that changes no term of the resolver is closed without effect. -/
theorem settle_of_settled (h : Settled s) : settle s = s := by
  unfold settle
  rw [rereadConditions_of_inStep s h.1]
  simp [grantLoop, h.2]

theorem SameButResolver.refl : SameButResolver s s := rfl

/-- The frame as equations, one for each field. -/
theorem sameButResolver_iff {s t : State} : SameButResolver s t ↔
    t.now = s.now ∧ t.pru = s.pru ∧ t.acu = s.acu ∧ t.cal = s.cal ∧ t.gens = s.gens ∧ t.emitters = s.emitters ∧
    t.monitors = s.monitors ∧ t.snapshot = s.snapshot ∧ t.ctl = s.ctl ∧ t.store = s.store ∧ t.meas = s.meas ∧
    t.receivers = s.receivers ∧ t.pending = s.pending ∧ t.port.requests = s.port.requests ∧
    t.port.linkTimer = s.port.linkTimer ∧ t.port.linkSilent = s.port.linkSilent ∧
    t.port.orderTimer = s.port.orderTimer ∧ t.port.lastSent = s.port.lastSent := by
  obtain ⟨_, _, _, _, _, _, _, _, _, _, _, _, ⟨_, _, _, _, _, _, _, _⟩, _, _⟩ := s
  obtain ⟨_, _, _, _, _, _, _, _, _, _, _, _, ⟨_, _, _, _, _, _, _, _⟩, _, _⟩ := t
  simp [SameButResolver]
  tauto

theorem SameButResolver.trans {a b c : State} (h : SameButResolver a b) (k : SameButResolver b c) :
    SameButResolver a c := by
  rw [sameButResolver_iff] at *
  simp_all

theorem rereadConditions_same : SameButResolver s (rereadConditions s) := by
  rw [sameButResolver_iff]; simp

/-- A grant moves nothing but the resolver where no stop demand moves the converter (R127). -/
theorem grantOne_same (src : Source) (h : Unmoved s.ctl.state) : SameButResolver s (grantOne src s) := by
  have hs : ∀ t : State, Unmoved t.ctl.state → stopDemand src t = t := by
    intro t ht
    unfold Unmoved at ht
    unfold stopDemand
    split <;> simp_all
  unfold grantOne startAction
  split
  · rw [hs _ (by simpa using h), sameButResolver_iff]; simp
  · rw [hs _ (by simpa using h), sameButResolver_iff]; simp
  · rw [sameButResolver_iff]; simp
  · rw [sameButResolver_iff]; simp

theorem grantLoop_same (n : Nat) (s : State) (h : Unmoved s.ctl.state) : SameButResolver s (grantLoop n s) := by
  induction n generalizing s with
  | zero => rfl
  | succ n ih =>
    unfold grantLoop
    split
    · rename_i src _
      have g := grantOne_same s src h
      have hc : (grantOne src s).ctl = s.ctl := (sameButResolver_iff.mp g).2.2.2.2.2.2.2.2.1
      exact g.trans (ih _ (by rwa [hc]))
    · rfl

/-- The close of an event moves nothing but the resolver where no stop demand moves the converter. -/
theorem settle_same (h : Unmoved s.ctl.state) : SameButResolver s (settle s) := by
  unfold settle
  exact (rereadConditions_same s).trans (grantLoop_same 32 _ (by simpa using h))


end Sys2Proof.Machine
end

