-- ==== Sys2Proof/Laws/Frames.lean ====
section
/-! SUPPORT. How frames arrive and leave, said once: the receivers, the reading of bytes, the arrival of a good frame (R160), and
the length of an outgoing frame (R159, R166). -/

namespace Sys2Proof.Machine

variable {s : State}

/-! ### Receivers -/

@[simp] theorem lineReceiver_set_self (rs : Receivers) (line : Line) (r : Receiver) :
    lineReceiver (setLineReceiver rs line r) line = r := by
  cases line <;> simp [lineReceiver, setLineReceiver]

theorem lineReceiver_set_other (rs : Receivers) {line other : Line} (r : Receiver) (h : other ≠ line) :
    lineReceiver (setLineReceiver rs line r) other = lineReceiver rs other := by
  cases line with
  | ret v =>
    cases other with
    | ret w =>
      have hv : v.val ≠ w.val := fun e => h (by rw [Fin.ext e])
      simp [lineReceiver, setLineReceiver, hv]
    | control => rfl
    | measurement => rfl
  | control => cases other <;> first | rfl | exact absurd rfl h
  | measurement => cases other <;> first | rfl | exact absurd rfl h

@[simp] theorem setLineReceiver_set (rs : Receivers) (line : Line) (r q : Receiver) :
    setLineReceiver (setLineReceiver rs line r) line q = setLineReceiver rs line q := by
  cases line <;> simp [setLineReceiver]

/-- Putting back the receiver that a line has changes nothing. -/
@[simp] theorem setLineReceiver_get (rs : Receivers) (line : Line) : setLineReceiver rs line (lineReceiver rs line) = rs := by
  cases line <;> simp [setLineReceiver, lineReceiver]

/-- A receiver that hunts is between frames (R160). -/
theorem betweenFrames_of_hunting {line : Line} (h : lineReceiver s.receivers line = .hunting) :
    betweenFrames line s = true := by
  simp [betweenFrames, h]

/-- A receiver inside a frame is between frames exactly when its last byte is more than 40 ticks old (R160). -/
theorem betweenFrames_of_last {line : Line} {last : Nat}
    (h : lineReceiver s.receivers line = .awaitLength last ∨ ∃ n got, lineReceiver s.receivers line = .reading n got last) :
    betweenFrames line s = decide (last + Config.byteGap < s.now) := by
  obtain h | ⟨n, got, h⟩ := h <;> simp [betweenFrames, h, gapPassed]

/-! ### Reading bytes -/

@[simp] theorem receiveBytes_nil (line : Line) (t : Nat) (r : Receiver) : receiveBytes line t r [] = (r, []) := rfl

/-- Two runs of bytes at one time read as one after the other. -/
theorem receiveBytes_append (line : Line) (t : Nat) (r : Receiver) (a b : List Byte) :
    receiveBytes line t r (a ++ b) =
      ((receiveBytes line t (receiveBytes line t r a).1 b).1,
        (receiveBytes line t r a).2 ++ (receiveBytes line t (receiveBytes line t r a).1 b).2) := by
  induction a generalizing r with
  | nil => simp
  | cons x xs ih => simp [receiveBytes, ih, List.append_assoc]

/-- A byte inside a frame that it does not end is kept, and ends nothing (R160). -/
theorem receiveByte_reading {line : Line} {t n last : Nat} {got : List Byte} (b : Byte) (hg : t ≤ last + Config.byteGap)
    (hn : got.length + 1 < n + 2) :
    receiveByte line t (.reading n got last) b = (.reading n (got ++ [b]) t, none) := by
  simp [receiveByte, gapPassed, Nat.not_lt.mpr hg, hn]

/-- Bytes that do not fill a frame are kept in it, one after the other (R160). -/
theorem receiveBytes_reading {line : Line} {t n : Nat} (bytes : List Byte) {got : List Byte} {last : Nat}
    (hg : t ≤ last + Config.byteGap) (hn : got.length + bytes.length < n + 2) (hb : bytes ≠ []) :
    receiveBytes line t (.reading n got last) bytes = (.reading n (got ++ bytes) t, []) := by
  induction bytes generalizing got last with
  | nil => exact absurd rfl hb
  | cons b bs ih =>
    have h1 : got.length + 1 < n + 2 := by simp at hn; omega
    rw [receiveBytes, receiveByte_reading b hg h1]
    by_cases hbs : bs = []
    · simp [hbs]
    · rw [ih (Nat.le_add_right _ _) (by simp at hn ⊢; omega) hbs]
      simp

/-! ### Arrival -/

/-- A run of bytes whose frames are all discarded changes nothing but the line's receiver (R160). -/
theorem takeBytes_of_discarded {line : Line} {bytes : List Byte}
    (h : ∀ o ∈ (receiveBytes line s.now (lineReceiver s.receivers line) bytes).2, o = .discarded) :
    takeBytes line bytes s =
      let r := (receiveBytes line s.now (lineReceiver s.receivers line) bytes).1
      { s with receivers := setLineReceiver s.receivers line r } := by
  have hf : ∀ (l : List FrameOutcome) (u : State), (∀ o ∈ l, o = .discarded) →
      l.foldl (fun s o => takeOutcome o s) u = u := by
    intro l
    induction l with
    | nil => exact fun _ _ => rfl
    | cons o os ih =>
      intro u hl
      rw [List.foldl_cons, hl o (by simp), takeOutcome]
      exact ih u fun p hp => hl p (by simp [hp])
  exact hf _ _ h

/-- A good frame is taken whole where its line's receiver is between frames (R160). -/
theorem arrive_between {line : Line} (h : betweenFrames line s = true) (bytes : List Byte) (good : State → State) :
    arrive line bytes good s = good (frameEnded line s) := by
  simp [arrive, h]

/-- A good frame inside another is read on by its bytes (R160). -/
theorem arrive_inside {line : Line} (h : betweenFrames line s = false) (bytes : List Byte) (good : State → State) :
    arrive line bytes good s = takeBytes line bytes s := by
  simp [arrive, h]

/-! ### Frames as sent -/

/-- A frame is its length byte's count and four bytes more (R159). -/
@[simp] theorem frameBytes_length (kind tag : Byte) (body : List Byte) : (frameBytes kind tag body).length = body.length + 6 := by
  simp [frameBytes, twoBytes]

/-- The body of every outgoing record fits a frame. -/
theorem outRecordBody_length_le (r : OutRecord) : (outRecordBody r).length ≤ Config.bodyLimit := by
  cases r with
  | reply k tag code content =>
    by_cases h : content = .empty <;> simp [outRecordBody, h, Config.bodyLimit]
  | unknownReply tag code => simp [outRecordBody, Config.bodyLimit]
  | noticeState old new cause valve time => simp [outRecordBody]
  | noticeGrant src action time => simp [outRecordBody]
  | noticeEnd src cause time => simp [outRecordBody]

/-- When the line ends the record that it sends: 8 ticks for each byte of its frame after it began (R166). -/
theorem sendEnd_cons {r : OutRecord} {rest : List OutRecord} {start : Nat} {p : Port} (ho : p.outgoing = r :: rest)
    (hs : p.sendStart = some start) : sendEnd p = some (sentAt start (recordLength r)) := by
  simp [sendEnd, sendingLength, ho, hs]

end Sys2Proof.Machine
end

