-- ==== Sys2Proof/Laws/Requests.lean ====
section
/-! SUPPORT. How a request row, an expiry row and the close of an event act, said once. -/

namespace Sys2Proof.Machine

variable {s : State}

/-! ### Taking a request (R164) -/

/-- The state with the head frame out of the queue and a record at the tail of the outgoing list, which an idle line begins
to send at once (R164, R166). -/
def replied (rec : OutRecord) (s : State) : State :=
  { s with port := { s.port with
      requests := s.port.requests.tail
      outgoing := s.port.outgoing ++ [rec]
      sendStart := if s.port.outgoing = [] then some s.now else s.port.sendStart } }

/-- A reply to the head request is `replied`, whatever else its event has written before. -/
theorem appendRecord_popped (rec : OutRecord) (s : State) : appendRecord rec (popped s) = replied rec s := by
  simp [appendRecord, popped, replied]

/-- A command that answers `replied` answers its record and changes what `u` changes. -/
theorem answers_of_replied {c : Instr} {rec : OutRecord} {u : State} (h : exec c s = .next (replied rec u))
    (ho : u.port.outgoing = s.port.outgoing) : Answers c s rec (popped u) :=
  ⟨_, h, by simp [replied, ho], by simp [replied, popped]⟩

/-- The head request is taken whole and its event closed (R164). -/
theorem serve_taken {tag : Nat} {r : Request} (h : TakesRequest s tag r) (k : RequestKind) (hk : requestKind r = k)
    (f : Nat → Request → State → State) : serve k f s = settle (f tag r (takenEffects k (popped s))) := by
  obtain ⟨h1, h2⟩ := h
  cases hq : s.port.requests with
  | nil => simp [hq] at h1
  | cons g rest =>
    simp [hq] at h1
    subst h1
    have hr : requestReady s = true := by simp [requestReady, hq, Config.takeLimit, h2]
    simp [serve, takeHead, hq, hr, hk, popped]

/-- Without a request of its kind to take, a request row is no event (log 4). -/
theorem serve_none (k : RequestKind) (f : Nat → Request → State → State) (h : takeHead k s = none) :
    serve k f s = s := by
  simp [serve, h]

/-- A taken request that is neither read-only nor a setup record closes the sequence (R143). -/
theorem takenEffects_abandons {k : RequestKind} (h1 : isReadOnly k = false) (h2 : isSetupRecord k = false)
    (h3 : k ≠ .angleOrder) (s : State) : takenEffects k s = abandoned s := by
  simp [takenEffects, h1, h2, h3, closeSequence, abandoned]

/-- A read-only request or a setup record leaves the sequence to its own rule (R143). -/
theorem takenEffects_keeps {k : RequestKind} (h : (isReadOnly k || isSetupRecord k) = true) (h3 : k ≠ .angleOrder)
    (s : State) : takenEffects k s = s := by
  simp [takenEffects, h3, h]

/-! ### Expiries -/

/-- An expiry that station time can reach is taken at its own instant. -/
theorem onExpiry_taken {t : Nat} (h : canReach t s = true) (f : State → State) :
    onExpiry (some t) f s = f (atTime t s) := by
  simp [onExpiry, h]

/-- A stopped timer has no expiry. -/
theorem onExpiry_stopped (f : State → State) : onExpiry none f s = s := rfl

/-! ### The grants of a calm state -/

/-- The frame of one grant whose action is no stop. -/
theorem grantOne_calm (src : Source) (h1 : src ≠ .valveTrip) (h2 : src ≠ .phaseLost) (h3 : src ≠ .linkLost) :
    SameButResolver s (grantOne src s) := by
  unfold grantOne startAction
  rw [sameButResolver_iff]
  cases src <;> simp_all [sourceAction]

/-- The pending set after a grant that is no stop: no stop source comes into it. -/
theorem grantOne_leavesIdle (src b : Source) (hb : b = .valveTrip ∨ b = .phaseLost ∨ b = .linkLost)
    (h1 : src ≠ .valveTrip) (h2 : src ≠ .phaseLost) (h3 : src ≠ .linkLost) (h : isPending s b = false) :
    isPending (grantOne src s) b = false := by
  have hn : ∀ (r : OutRecord) (u : State), (notify r u).prot = u.prot := fun r u => by simp
  have hs : ∀ u : State, isPending u b = false → isPending (startTimed src u) b = false := by
    intro u hu
    unfold startTimed
    split
    · dsimp only
      split
      · rcases hb with rfl | rfl | rfl <;> cases src <;>
          simp_all [endSource, placeEnded, stopAction, setActionTimer, makePending, isPending, isEdgeSource, hasSource] <;>
          (try split) <;> simp_all [putSource, conditionHolds]
      · rcases hb with rfl | rfl | rfl <;> cases src <;> simp_all [isPending, setActionTimer]
    · exact hu
  have hm : isPending (moveToAction src s) b = false := by
    simp only [moveToAction, isPending, withdraw, hn, hasSource_putSource]
    split
    · rfl
    · exact h
  unfold grantOne startAction
  cases src <;> simp_all [sourceAction]

/-- The conditions of a state depend on nothing that a frame leaves free. -/
theorem SameButResolver.conditionHolds {s t : State} (h : SameButResolver s t) (src : Source) :
    conditionHolds t src = Machine.conditionHolds s src := by
  obtain ⟨-, h1, -, -, -, -, h4, -, h2, h5, h3, -, -, -, -, h6, h7, -⟩ := sameButResolver_iff.mp h
  exact conditionHolds_congr h1 h2 h3 h4 h5 h6 h7 src

/-- What a pass may grant is pending. -/
theorem nextGrant_pending {src : Source} (h : nextGrant s = some src) : isPending s src = true := by
  have key : ∀ x, highestPending s = some x → isPending s x = true := by
    intro x hx
    have := List.find?_some hx
    simp at this
    exact this.1
  unfold nextGrant at h
  split at h
  · rename_i x hx
    split at h
    · cases h; exact key _ hx
    · split at h
      · cases h; exact key _ hx
      · cases h
  · cases h

theorem grantLoop_calm (n : Nat) (s : State) (h : Calm s) : SameButResolver s (grantLoop n s) := by
  induction n generalizing s with
  | zero => rfl
  | succ n ih =>
    unfold grantLoop
    split
    · rename_i src hg
      have hp := nextGrant_pending hg
      obtain ⟨a, b, c, d, e⟩ := h
      have h1 : src ≠ .valveTrip := by rintro rfl; simp_all
      have h2 : src ≠ .phaseLost := by rintro rfl; simp_all
      have h3 : src ≠ .linkLost := by rintro rfl; simp_all
      have g := grantOne_calm (s := s) src h1 h2 h3
      refine g.trans (ih _ ⟨?_, ?_, ?_, ?_, ?_⟩)
      · exact grantOne_leavesIdle src _ (.inl rfl) h1 h2 h3 a
      · exact grantOne_leavesIdle src _ (.inr (.inl rfl)) h1 h2 h3 b
      · exact grantOne_leavesIdle src _ (.inr (.inr rfl)) h1 h2 h3 c
      · rw [g.conditionHolds]; exact d
      · rw [g.conditionHolds]; exact e
    · rfl

/-- A re-reading makes no stop source pending whose condition does not hold. -/
theorem rereadConditions_calm (h : Calm s) : Calm (rereadConditions s) := by
  have one : ∀ (u : State) (src : Source), src = .phaseLost ∨ src = .linkLost ∨ src = .measureStale ∨ src = .levelDegraded ∨
      src = .orderStale → Calm u → Calm (rereadOne src u) := by
    intro u src hsrc hu
    have hsame : SameButResolver u (rereadOne src u) := by rw [sameButResolver_iff]; simp
    obtain ⟨a, b, c, d, e⟩ := hu
    refine ⟨?_, ?_, ?_, ?_, ?_⟩
    iterate 3
      unfold rereadOne
      rcases hsrc with rfl | rfl | rfl | rfl | rfl <;> (repeat' split) <;>
        simp_all [makePending, withdraw, isPending, isClearedSource, endSource, placeEnded, isEdgeSource, stopAction,
          setActionTimer, hasSource, putSource] <;> (try split) <;> simp_all
    · rw [hsame.conditionHolds]; exact d
    · rw [hsame.conditionHolds]; exact e
  unfold rereadConditions
  simp only [List.foldl]
  exact one _ _ (by simp) (one _ _ (by simp) (one _ _ (by simp) (one _ _ (by simp) (one _ _ (by simp) h))))

/-- The close of an event moves nothing but the resolver in a calm state, and where no stop demand moves the converter. -/
theorem settle_quiet (h : Quiet s) : SameButResolver s (settle s) := by
  rcases h with h | h
  · unfold settle
    exact (rereadConditions_same s).trans (grantLoop_calm 32 _ (rereadConditions_calm h))
  · exact settle_same s h

end Sys2Proof.Machine
end

