-- ==== Sys2Proof/Laws/Outgoing.lean ====
section
/-! SUPPORT. The outgoing list only grows within an event, and a notice never takes it past 32 records (R166). -/

namespace Sys2Proof.Machine

variable (s : State)

/-- What an operation may do to the outgoing list: it keeps it as a prefix, and stays within 32 records if it was. -/
def Grows (s t : State) : Prop :=
  s.port.outgoing <+: t.port.outgoing ∧ (s.port.outgoing.length ≤ 32 → t.port.outgoing.length ≤ 32)

theorem Grows.refl : Grows s s := ⟨List.prefix_rfl, id⟩

theorem Grows.of_eq {s t : State} (h : t.port.outgoing = s.port.outgoing) : Grows s t := by
  simp [Grows, h]

theorem Grows.trans {a b c : State} (h : Grows a b) (k : Grows b c) : Grows a c :=
  ⟨h.1.trans k.1, fun x => k.2 (h.2 x)⟩

/-- An operation that leaves the port alone may come first. -/
theorem Grows.after {s u t : State} (h : u.port = s.port) (k : Grows u t) : Grows s t :=
  Grows.trans (.of_eq (by rw [h])) k

theorem notify_grows (r : OutRecord) : Grows s (notify r s) := by
  unfold Grows
  rw [notify_outgoing]
  split
  · simp; omega
  · simp

theorem makePending_grows (src : Source) : Grows s (makePending src s) := .of_eq (by simp)

theorem placeEnded_outgoing (src : Source) : (placeEnded src s).port = s.port := by
  unfold placeEnded
  split
  · simp
  · split <;> simp

theorem endSource_grows (src : Source) (c : EndCause) : Grows s (endSource src c s) := by
  have h := notify_grows (stopAction src s) (.noticeEnd src c s.now)
  unfold Grows at *
  simpa [endSource, placeEnded_outgoing] using h

theorem rereadOne_grows (src : Source) : Grows s (rereadOne src s) := by
  unfold rereadOne
  repeat' split
  · exact .refl _
  · exact makePending_grows ..
  · exact endSource_grows ..
  · exact .refl _
  · exact .of_eq (by simp)

theorem rereadConditions_grows : Grows s (rereadConditions s) := by
  simp only [rereadConditions, List.foldl]
  exact (((rereadOne_grows _ _).trans (rereadOne_grows _ _)).trans (rereadOne_grows _ _)).trans
    ((rereadOne_grows _ _).trans (rereadOne_grows _ _))

theorem changeState_grows (c : ConvState) (u : StateCause) (v : Option Valve) : Grows s (changeState c u v s) := by
  simp only [changeState, notifyState]
  exact .after (by simp) ((notify_grows { s with ctl := { s.ctl with state := c } } _).trans (rereadConditions_grows _))

theorem enterBlocked_grows (u : StateCause) (v : Option Valve) : Grows s (enterBlocked u v s) := by
  simp only [enterBlocked]
  exact .after (by simp) (changeState_grows _ _ _ _)

theorem enterPrecheck_grows : Grows s (enterPrecheck s) := by
  simp only [enterPrecheck]
  exact .after (by simp) (changeState_grows _ _ _ _)

theorem enterRunning_grows (u : StateCause) : Grows s (enterRunning u s) := by
  simp only [enterRunning]
  exact .after (by simp) (changeState_grows _ _ _ _)

theorem enterBypass_grows (u : StateCause) : Grows s (enterBypass u s) := by
  simp only [enterBypass]
  exact .after (by simp) (changeState_grows _ _ _ _)

theorem enterTesting_grows (u : StateCause) : Grows s (enterTesting u s) := by
  simp only [enterTesting]
  exact .after (by simp) (changeState_grows _ _ _ _)

theorem enterTestHeld_grows : Grows s (enterTestHeld s) := by
  simp only [enterTestHeld]
  exact .after (by simp) (changeState_grows _ _ _ _)

theorem enterRetard_grows (u : StateCause) : Grows s (enterRetard u s) := by
  have h : ∀ x : Controller, Grows s (changeState .retard u none { s with ctl := x }) := fun x =>
    .after (by simp) (changeState_grows _ _ _ _)
  simp only [enterRetard]
  split
  · exact (h _).trans (enterBlocked_grows _ _ _)
  · exact h _

theorem stopDemand_grows (src : Source) : Grows s (stopDemand src s) := by
  unfold stopDemand
  split
  · split
    · exact enterBypass_grows ..
    · exact enterRetard_grows ..
  · exact enterBlocked_grows ..
  · exact enterBlocked_grows ..
  · exact enterBlocked_grows ..
  all_goals exact .refl _

theorem startTimed_grows (src : Source) : Grows s (startTimed src s) := by
  simp only [startTimed]
  split
  · split
    · exact .after (by simp) (endSource_grows _ _ _)
    · exact .of_eq (by simp)
  · exact .refl _

theorem grantOne_grows (src : Source) : Grows s (grantOne src s) := by
  have h : Grows s (moveToAction src s) := by
    simp only [moveToAction]
    exact .after (by simp) (notify_grows _ _)
  refine h.trans (?_ : Grows (moveToAction src s) (startAction src (moveToAction src s)))
  unfold startAction
  split
  · exact .after (by simp) (stopDemand_grows _ _)
  · exact stopDemand_grows ..
  · exact startTimed_grows ..
  · exact startTimed_grows ..

theorem grantLoop_grows (n : Nat) (s : State) : Grows s (grantLoop n s) := by
  induction n generalizing s with
  | zero => exact .refl _
  | succ n ih =>
    unfold grantLoop
    split
    · exact (grantOne_grows _ _).trans (ih _)
    · exact .refl _

/-- The close of an event only adds notices. -/
theorem settle_grows : Grows s (settle s) :=
  (rereadConditions_grows s).trans (grantLoop_grows 32 _)

/-! ### Completion -/

variable {s}

/-- The shape of a completion proof: the event before its close, and the close of a quiet state. -/
theorem completesReplying_of {c : Instr} {rec : OutRecord} {u m : State} (h : exec c s = .next (settle m))
    (hs : SameButResolver u m) (hq : Quiet m) (hp : (s.port.outgoing ++ [rec]) <+: m.port.outgoing) :
    CompletesReplying c s rec u :=
  ⟨settle m, h, hs.trans (settle_quiet hq), hp.trans (settle_grows m).1⟩

/-- The same without a reply. -/
theorem completes_of {c : Instr} {u m : State} (h : exec c s = .next (settle m)) (hs : SameButResolver u m)
    (hq : Quiet m) : Completes c s u :=
  ⟨settle m, h, hs.trans (settle_quiet hq)⟩

/-- A quiet state stays quiet when nothing is written that the stop sources read. -/
theorem Quiet.congr {s t : State} (h : Quiet s) (h1 : t.prot.waiting = s.prot.waiting) (h2 : t.pru.lock = s.pru.lock)
    (h3 : t.ctl.state = s.ctl.state) (h4 : t.port.linkSilent = s.port.linkSilent) : Quiet t := by
  unfold Quiet Calm isPending Unmoved conditionHolds at *
  simp_all

/-- A settled state stays settled when nothing is written that the resolver reads. -/
theorem Settled.congr {s t : State} (h : Settled s) (h0 : t.prot = s.prot) (h1 : t.pru = s.pru)
    (h2 : t.ctl.state = s.ctl.state) (h3 : t.meas = s.meas) (h4 : t.monitors = s.monitors)
    (h5 : t.store.setup = s.store.setup) (h6 : t.port.linkSilent = s.port.linkSilent)
    (h7 : t.port.orderTimer = s.port.orderTimer) : Settled t := by
  have hc : ∀ src, conditionHolds t src = conditionHolds s src := by
    intro src
    cases src <;> simp [conditionHolds, levelDegraded, failedCount, h1, h2, h3, h4, h5, h6, h7] <;> rfl
  obtain ⟨a, b⟩ := h
  refine ⟨fun src he => ?_, ?_⟩
  · have := a src he
    simpa [hc, isPending, isInAction, h0] using this
  · rw [← b]
    simp [nextGrant, highestPending, outranksAction, isPending, h0, h5]

end Sys2Proof.Machine
end

