-- ==== Sys2Proof/Laws/PerInstr.lean ====
section
/-! SUPPORT. The family `Carried`: the values of a well-formed command fit the bytes that carry them (R159, R166). One lemma for
each command. -/

namespace Sys2Proof.Laws.Carried

/-- The values of a command fit the bytes that carry them (R157, R152, R79, R66, R159, R166); a row without carried values has
nothing to fit. -/
def Fits : Instr → Prop
  | .controlFrame f => f.tag < 256 ∧ ∀ code, f.body = .unknownKind code → code < 256 ∧ (code = 0 ∨ 31 < code)
  | .recordSent n => 2 ≤ n ∧ n ≤ 250
  | .crossing kind lag => kind < 256 ∧ lag < 256
  | .sample seq id uac => seq < 256 ∧ -32768 ≤ id ∧ id < 32768 ∧ uac < 65536
  | .returnRecord _ r => r.valve < 256 ∧ r.window < 65536 ∧ r.protective.length ≤ 8 ∧ ∀ l ∈ r.protective, l < 256
  | .reappear _ valve => valve < 256
  | .actionTimerExpiry src => src = .commutationFail ∨ src = .refireLimit
  | .discardedFrame _ bytes => bytes ≠ []
  | _ => True

/-- A well-formed command carries values that fit. -/
def Statement (i : Instr) : Prop := wellFormed i = true → Fits i

theorem powerOn : Statement .powerOn := fun _ => trivial

theorem controlFrame (f : ControlFrame) : Statement (.controlFrame f) := by
  intro h
  simp only [wellFormed, controlFrameFits, Bool.and_eq_true, fitsByte, decide_eq_true_eq] at h
  refine ⟨by omega, fun code hc => ?_⟩
  simp only [hc, bodyFits, unknownKindFits, fitsByte, Bool.and_eq_true, Bool.or_eq_true, decide_eq_true_eq, beq_iff_eq] at h
  omega

theorem byteGapTimeout (line : Line) : Statement (.byteGapTimeout line) := fun _ => trivial

theorem recordSent (n : Nat) : Statement (.recordSent n) := by
  intro h
  simpa [wellFormed, Fits] using h

theorem unknownRequest : Statement .unknownRequest := fun _ => trivial

theorem setupBegin : Statement .setupBegin := fun _ => trivial

theorem setupPhase : Statement .setupPhase := fun _ => trivial

theorem setupAngles : Statement .setupAngles := fun _ => trivial

theorem setupGuard : Statement .setupGuard := fun _ => trivial

theorem setupLevels : Statement .setupLevels := fun _ => trivial

theorem setupEnd : Statement .setupEnd := fun _ => trivial

theorem tableWrite : Statement .tableWrite := fun _ => trivial

theorem tableRead : Statement .tableRead := fun _ => trivial

theorem mapWrite : Statement .mapWrite := fun _ => trivial

theorem mapLock : Statement .mapLock := fun _ => trivial

theorem deblock : Statement .deblock := fun _ => trivial

theorem block : Statement .block := fun _ => trivial

theorem bypass : Statement .bypass := fun _ => trivial

theorem testStart : Statement .testStart := fun _ => trivial

theorem testSuspend : Statement .testSuspend := fun _ => trivial

theorem testResume : Statement .testResume := fun _ => trivial

theorem angleOrder : Statement .angleOrder := fun _ => trivial

theorem phaseRestart : Statement .phaseRestart := fun _ => trivial

theorem restart : Statement .restart := fun _ => trivial

theorem protMask : Statement .protMask := fun _ => trivial

theorem protEnd : Statement .protEnd := fun _ => trivial

theorem protEndTop : Statement .protEndTop := fun _ => trivial

theorem protStatus : Statement .protStatus := fun _ => trivial

theorem levelLatch : Statement .levelLatch := fun _ => trivial

theorem levelRead : Statement .levelRead := fun _ => trivial

theorem levelFind : Statement .levelFind := fun _ => trivial

theorem levelRelease : Statement .levelRelease := fun _ => trivial

theorem levelClear : Statement .levelClear := fun _ => trivial

theorem levelExclude : Statement .levelExclude := fun _ => trivial

theorem status : Statement .status := fun _ => trivial

theorem historyRead : Statement .historyRead := fun _ => trivial

theorem crossing (kind lag : Nat) : Statement (.crossing kind lag) := by
  intro h
  simp only [wellFormed, fitsByte, Bool.and_eq_true, decide_eq_true_eq] at h
  exact ⟨by omega, by omega⟩

theorem armedExpiry : Statement .armedExpiry := fun _ => trivial

theorem sample (seq : Nat) (id : Int) (uac : Nat) : Statement (.sample seq id uac) := by
  intro h
  simp only [wellFormed, fitsByte, fitsTwoBytes, Bool.and_eq_true, decide_eq_true_eq] at h
  exact ⟨by omega, by omega, by omega, by omega⟩

theorem returnRecord (line : Valve) (r : ReturnRecord) : Statement (.returnRecord line r) := by
  intro h
  simp only [wellFormed, returnFits, fitsByte, fitsTwoBytes, Bool.and_eq_true, decide_eq_true_eq, List.all_eq_true] at h
  exact ⟨by omega, by omega, h.1.2, fun l hl => Nat.lt_succ_of_le (h.2 l hl)⟩

theorem reappear (line : Valve) (valve : Nat) : Statement (.reappear line valve) := by
  intro h
  simp only [wellFormed, fitsByte, decide_eq_true_eq] at h
  exact Nat.lt_succ_of_le h

theorem firing : Statement .firing := fun _ => trivial

theorem repeatExpiry (v : Valve) : Statement (.repeatExpiry v) := fun _ => trivial

theorem trainEnd (v : Valve) : Statement (.trainEnd v) := fun _ => trivial

theorem cfpHoldExpiry : Statement .cfpHoldExpiry := fun _ => trivial

theorem actionTimerExpiry (src : Source) : Statement (.actionTimerExpiry src) := by
  cases src <;> simp [Statement, wellFormed, isTimed, Fits]

theorem runWindowExpiry : Statement .runWindowExpiry := fun _ => trivial

theorem precheckTimerExpiry : Statement .precheckTimerExpiry := fun _ => trivial

theorem retardTimerExpiry : Statement .retardTimerExpiry := fun _ => trivial

theorem staleTimerExpiry : Statement .staleTimerExpiry := fun _ => trivial

theorem linkTimerExpiry : Statement .linkTimerExpiry := fun _ => trivial

theorem orderTimerExpiry : Statement .orderTimerExpiry := fun _ => trivial

theorem discardedFrame (line : Line) (bytes : List Byte) : Statement (.discardedFrame line bytes) := by
  intro h
  simpa [wellFormed, Fits, List.isEmpty_eq_false_iff] using h

end Sys2Proof.Laws.Carried
end

