-- ==== Sys2Proof/Tests/Slice0.lean ====
section
/-! SUPPORT. Tests. First one ill-formed command for each check of `wellFormed`; then worked values of the manual, one step each;
then, for each statement with hypotheses, a `witness_` theorem that shows states and operands that meet them, clause by clause. -/

namespace Sys2Proof.Tests

open Sys2Proof.Machine

-- One theorem after the other: many kernel evaluations at once take more threads than a check may have.
set_option Elab.async false

/-! ## Well-formedness -/

theorem test_wellFormed_refuses_tag : wellFormed (.controlFrame ⟨256, .request .status⟩) = false := by decide
theorem test_wellFormed_refuses_known_code : wellFormed (.controlFrame ⟨0, .unknownKind 31⟩) = false := by decide
theorem test_wellFormed_refuses_wide_code : wellFormed (.controlFrame ⟨0, .unknownKind 256⟩) = false := by decide
theorem test_wellFormed_refuses_row :
    wellFormed (.controlFrame ⟨0, .request (.tableWrite 256 (Vector.replicate 8 0))⟩) = false := by decide
theorem test_wellFormed_refuses_entry :
    wellFormed (.controlFrame ⟨0, .request (.tableWrite 0 (Vector.replicate 8 65536))⟩) = false := by decide
theorem test_wellFormed_refuses_read_row :
    wellFormed (.controlFrame ⟨0, .request (.tableRead (some (.row 256)))⟩) = false := by decide
theorem test_wellFormed_refuses_generation :
    wellFormed (.controlFrame ⟨0, .request (.deblock 65536 0)⟩) = false ∧
    wellFormed (.controlFrame ⟨0, .request (.deblock 0 65536)⟩) = false := by decide
theorem test_wellFormed_refuses_count :
    wellFormed (.controlFrame ⟨0, .request (.testStart 0 65536 0 0)⟩) = false := by decide
theorem test_wellFormed_refuses_length : wellFormed (.recordSent 1) = false ∧ wellFormed (.recordSent 251) = false := by
  decide
theorem test_wellFormed_refuses_crossing : wellFormed (.crossing 256 0) = false ∧ wellFormed (.crossing 0 256) = false := by
  decide
theorem test_wellFormed_refuses_sample : wellFormed (.sample 256 0 0) = false ∧ wellFormed (.sample 0 32768 0) = false ∧
    wellFormed (.sample 0 (-32769) 0) = false ∧ wellFormed (.sample 0 0 65536) = false := by decide
theorem test_wellFormed_refuses_return : wellFormed (.returnRecord 0 ⟨256, 0, 0, []⟩) = false ∧
    wellFormed (.returnRecord 0 ⟨1, 65536, 0, []⟩) = false ∧
    wellFormed (.returnRecord 0 ⟨1, 0, 0, [1, 2, 3, 4, 5, 6, 7, 8, 9]⟩) = false ∧
    wellFormed (.returnRecord 0 ⟨1, 0, 0, [256]⟩) = false := by decide
theorem test_wellFormed_refuses_reappear : wellFormed (.reappear 0 256) = false := by decide
theorem test_wellFormed_refuses_untimed : wellFormed (.actionTimerExpiry .orderStale) = false := by decide
theorem test_wellFormed_refuses_no_bytes : wellFormed (.discardedFrame .control []) = false := by decide

/-! ## States of the tests -/

/-- The state that a command answers. -/
def after (c : Instr) (s : State) : State :=
  match exec c s with
  | .next t => t
  | .fault _ => s
  | .refused _ => s

/-- A station at rest in BLOCKED, LOCKED at P = 200,000, with complete tables at generations 33 and 1 and 16 levels a valve. -/
def rest : State :=
  { State.reset with
    now := 1000000
    pru := ⟨.locked, 200000, 966667, 2, 100, some ⟨1000000, 1000, 1000⟩, 0, 0, 0, 0⟩
    monitors := Vector.replicate 12 ⟨List.replicate 16 levelCleared, 0, false, 0, false, false⟩
    ctl := { State.reset.ctl with state := .blocked }
    store := { State.reset.store with
      setup := { defaultSetup with levels := ⟨16, 2, 1, 3, 2⟩ }
      table := Vector.replicate 33 ⟨true, Vector.replicate 8 2000⟩
      tableGen := 33 }
    meas := ⟨1000, 1000, some 9, some 1020000, false⟩
    port := ⟨[], [], none, false, some 1200000, false, some 1100000, none⟩ }

/-- The station in a converter state. -/
def inState (c : ConvState) (s : State) : State := { s with ctl := { s.ctl with state := c } }

/-- The station in a role. -/
def inRole (r : Role) (s : State) : State :=
  { s with store := { s.store with setup := { s.store.setup with role := r } } }

/-- The station with one request, of tag 7, at the head of its queue. -/
def ask (r : Request) (s : State) : State := { s with port := { s.port with requests := [⟨7, .request r⟩] } }

/-- The station with one source in action. -/
def acting (src : Source) (s : State) : State := { s with prot := { s.prot with inAction := [⟨src, 5⟩] } }

/-- The station with a setup step. -/
def atStep (n : Nat) (s : State) : State := { s with store := { s.store with step := n } }

/-- The station with one generator set. -/
def withGen (v : Valve) (g : Generator) (s : State) : State := { s with gens := s.gens.set v g }

/-- The station with one valve's levels and F_v at 3, above its R of 2. -/
def damaged (s : State) : State :=
  { s with
    monitors := s.monitors.set 4 { s.monitors[(4 : Valve)] with
      levels := List.replicate 3 ⟨.failedShort, 3, 0, 0, some 4⟩ ++ List.replicate 13 levelCleared } }

/-- The first completion code that a state has to send. -/
def firstCode (s : State) : Option Completion :=
  match s.port.outgoing with
  | .reply _ _ code _ :: _ => some code
  | _ => none

/-! ## Worked values of the manual -/

/-- R161: the check value of the CRC. -/
theorem test_crc_check_value : crc16 [0x31, 0x32, 0x33, 0x34, 0x35, 0x36, 0x37, 0x38, 0x39] = 0x29B1#16 := by decide +kernel

/-- R165: the frame of a refusal of BLOCK with STATE for tag 7, and that of the reply to a frame of kind 2A hex. -/
theorem test_outFrame_of_fixed_replies :
    (outFrame (.reply .block 7 .state .empty)).take 5 = [0x7E, 3, 0x8C, 7, 0x10] ∧
    (outFrame (.reply .block 7 .state .empty)).length = 7 ∧
    (outFrame (.unknownReply 9 0x2A)).take 6 = [0x7E, 4, 0xFF, 9, 0x1A, 0x2A] ∧
    (outFrame (.unknownReply 9 0x2A)).length = 8 := by decide +kernel

/-- R160: a byte 41 ticks after the last is hunted through, one 40 ticks after it is read on. -/
theorem test_receiveByte_after_gap :
    receiveByte .control 1041 (.reading 5 [1] 1000) 0x7E = (.awaitLength 1041, some .discarded) ∧
    receiveByte .control 1040 (.reading 5 [1] 1000) 0x7E = (.reading 5 [1, 0x7E] 1040, none) := by decide

/-- R164: a STATUS frame with a body of one byte is not of its kind's length, and a code above 31 is unknown. -/
theorem test_controlFrameOf_judges_bodies :
    controlFrameOf 0x1E 7 [] = ⟨7, .request .status⟩ ∧
    controlFrameOf 0x1E 7 [0] = ⟨7, .badLength .status⟩ ∧
    controlFrameOf 0x20 7 [] = ⟨7, .unknownKind 0x20⟩ := by decide +kernel

/-- 02, 2.11: A(14,067) and A(17,067) at P = 200,000. -/
theorem test_angleTicks_worked : angleTicks 200000 14067 = 78150 ∧ angleTicks 200000 17067 = 94817 := by decide

/-- 02, 2.11: the four entries concerned, held Id 1,060 and Uac 930 give mu 2,233. -/
theorem test_overlap_worked :
    overlap { rest.store with
      table := (rest.store.table.set 8 ⟨true, #v[0, 0, 0, 0, 2200, 2000, 0, 0]⟩).set 9 ⟨true, #v[0, 0, 0, 0, 2400, 2180, 0, 0]⟩ }
      1060 930 = 2233 := by decide +kernel

/-- 02, 2.11: the capped angle and the two orders of reference point RN 4,812 of kind 2. -/
theorem test_crossing_makes_worked_orders :
    let s := inRole .inverter (inState .running
      { rest with
        store := { rest.store with
          table := (rest.store.table.set 8 ⟨true, #v[0, 0, 0, 0, 2200, 2000, 0, 0]⟩).set 9
            ⟨true, #v[0, 0, 0, 0, 2400, 2180, 0, 0]⟩ }
        pru := ⟨.locked, 200000, 966667, 2, 4811, some ⟨1000000, 1000, 1000⟩, 0, 0, 0, 0⟩
        acu := ⟨some 14500, none, 14400, none, 0, none⟩
        meas := ⟨1060, 930, some 9, some 1020000, false⟩ })
    (after (.crossing 2 0) s).cal.orders =
      [⟨2, .normal, 1078150, some 14067, some 2233, some 4812, ⟨false, true, false, false⟩⟩,
        ⟨8, .normal, 1094817, some 14067, some 2233, some 4812, ⟨false, true, false, false⟩⟩] ∧
    (after (.crossing 2 0) s).acu.aPrev = 14067 := by decide +kernel

/-- 01, 1.10: the acceptance in LOCKED of e = +80. -/
theorem test_crossing_accepts_worked :
    (after (.crossing 2 50) { rest with
      now := 5033463
      pru := ⟨.locked, 200000, 5000000, 2, 4811, some ⟨5033333, 1000, 1000⟩, 0, 1, 0, 0⟩ }).pru =
      ⟨.locked, 200030, 5033353, 3, 4812, some ⟨5066691, 1000, 1000⟩, 0, 0, 0, 0⟩ := by decide +kernel

/-- 01, 1.10: the third expiry of a flywheel run enters HOLDOVER. -/
theorem test_armedExpiry_enters_holdover :
    (after .armedExpiry { rest with
      now := 5167670
      pru := ⟨.locked, 200000, 5133337, 0, 4815, some ⟨5166670, 1000, 1000⟩, 0, 2, 0, 10⟩ }).pru =
      ⟨.holdover, 200000, 5166670, 1, 4816, some ⟨5200003, 1000, 1000⟩, 0, 3, 3, 10⟩ := by decide +kernel

/-- 03, 3.12: an order due before its flywheel point is taken is fired at once with LATE, and the D order waits. -/
theorem test_armedExpiry_fires_late :
    let t := after .armedExpiry (inState .running { rest with
      now := 4002000
      pru := ⟨.locked, 200000, 3966667, 1, 5, some ⟨4000000, 2000, 2000⟩, 0, 0, 0, 0⟩
      acu := ⟨some 300, none, 300, none, 0, none⟩
      store := { rest.store with setup := { rest.store.setup with
        angles := { rest.store.setup.angles with alphaMin := 200 } } } })
    t.cal.ring = [⟨1, 1, .normal, some 6, 4001667, 4002000, some 300, none, ⟨false, false, false, true⟩⟩] ∧
    t.cal.orders.map (·.due) = [4018333] ∧ t.cal.created = 2 ∧ t.cal.fired = 1 := by decide +kernel

/-- 03, 3.12: BYPASS from the steady list, with the pairs {2, 5} and {8, 11} and the firing numbers 14,591 to 14,594. -/
theorem test_bypass_worked :
    let o := fun v due => (⟨v, .normal, due, some 14067, some 2233, some 7300, ⟨false, true, false, false⟩⟩ : Order)
    let s := ask .bypass (inState .running { rest with
      now := 3070000
      cal := ⟨[o 2 3078150, o 8 3094817, o 3 3111483, o 9 3128150, o 4 3144816, o 10 3161483], 14602, 14590, 6, []⟩
      ctl := { rest.ctl with lastY := some 1, lastD := some 7 } })
    let t := after .bypass s
    t.cal.orders = [] ∧ t.cal.created = 14606 ∧ t.cal.fired = 14594 ∧ t.cal.discarded = 12 ∧
    t.cal.ring.map (fun r => (r.number, valveNumber r.valve)) = [(14594, 11), (14593, 8), (14592, 5), (14591, 2)] := by
  decide +kernel

/-- 04, 4.9: the last repeat of a train arms no further one. -/
theorem test_repeatExpiry_last_of_train :
    (after (.repeatExpiry 0) (withGen 0 ⟨.train, some 3078151, some 3078000, 3, none⟩ { rest with now := 3078000 })).gens[(0 : Valve)] =
      ⟨.train, some 3078151, none, 3, some 3078040⟩ := by decide +kernel

/-- 04, 4.9: the third refire of a train raises REFIRE_LIMIT, whose action begins and ends in the same event (06, R107). -/
theorem test_reappear_reaches_limit :
    let t := after (.reappear 0 1) (withGen 0 ⟨.train, some 3078151, some 3021250, 2, none⟩ { rest with now := 3020700 })
    t.gens[(0 : Valve)] = ⟨.train, some 3078151, some 3021700, 3, some 3020800⟩ ∧
    t.port.outgoing = [.noticeGrant .refireLimit .alarm 3020700, .noticeEnd .refireLimit .timed 3020700] := by
  decide +kernel

/-- 04, 4.9: DEBLOCK in BYPASS runs a hold down as a train without a pulse. -/
theorem test_deblock_runs_holds_down :
    (after .deblock (ask (.deblock 33 1) (inState .bypass
      (withGen 4 ⟨.hold, none, some 3501250, 0, none⟩ { rest with now := 3500400 })))).gens[(4 : Valve)] =
      ⟨.train, some 3567067, some 3501250, 0, none⟩ := by decide +kernel

/-- 07, 7.13: the test angle is clamped to alpha_max. -/
theorem test_testStart_clamps :
    (after .testStart (ask (.testStart 17500 2 33 1) rest)).acu.testAngle = some 16500 := by decide +kernel

/-- 06, 6.12: the fourth failure of a run trips the valve group and bypasses the inverter, the GRANT notice first. -/
theorem test_return_escalates :
    let s := acting .commutationFail (inRole .inverter (inState .running
      { rest with
        now := 21300000
        monitors := rest.monitors.set 9 { rest.monitors[(9 : Valve)] with window := 3, armed := true }
        prot := { rest.prot with cfRun := 3, runWindow := some 26000000, cfTimer := some 21600000 } }))
    let t := after (.returnRecord 9 ⟨10, 3, 0, []⟩) s
    t.prot.cfRun = 0 ∧ t.prot.runWindow = none ∧ t.prot.tripLine = true ∧ t.ctl.state = .bypass ∧
    t.port.outgoing = [.noticeGrant .valveTrip .trip 21300000,
      .noticeState .running .bypass (.source .valveTrip) none 21300000] := by decide +kernel

/-- 06, 6.12: silence at the rectifier in OPEN mode; the notices of LINK_LOST's grant stand in the manual's order. -/
theorem test_linkTimerExpiry_retards :
    let s := acting .orderStale (inState .running
      { rest with
        now := 50200000
        store := { rest.store with setup := { rest.store.setup with nesting := .openMode } }
        port := { rest.port with linkTimer := some 50200000, orderTimer := none } })
    let t := after .linkTimerExpiry s
    t.ctl.state = .retard ∧ t.ctl.retardTimer = some 50700000 ∧ t.prot.inAction.map (·.source) = [.linkLost] ∧
    t.port.outgoing = [.noticeGrant .linkLost .stop 50200000,
      .noticeState .running .retard (.source .linkLost) none 50200000, .noticeEnd .orderStale .cleared 50200000] := by
  decide +kernel

/-- 09, 9.7: a current beyond the table is held clamped, and a low voltage raises the margin. -/
theorem test_sample_clamps :
    let t := after (.sample 18 4600 780) { rest with now := 8004000, meas := ⟨1020, 1005, some 17, some 8022000, false⟩ }
    t.meas = ⟨4000, 780, some 18, some 8024000, false⟩ ∧ t.acu.cfpMargin = 1000 ∧ t.acu.cfpHold = some 9004000 := by
  decide +kernel

/-- 08, 8.9: MAP_WRITE with valve 5 twice, and DEBLOCK of another map generation, are refused. -/
theorem test_refusals_of_commissioning :
    firstCode (after .mapWrite (ask (.mapWrite #v[1, 2, 3, 5, 5, 6] #v[7, 8, 9, 10, 11, 12]) rest)) = some .range ∧
    firstCode (after .deblock (ask (.deblock 33 2) rest)) = some .signature := by decide +kernel

/-- 02, 2.12: the second order keeps the apply point of the first. -/
theorem test_angleOrder_replaces :
    (after .angleOrder (ask (.angleOrder 2400) { rest with acu := { rest.acu with waiting := some ⟨2000, 103⟩ } })).acu.waiting =
      some ⟨2400, 103⟩ := by decide +kernel

/-- 03, R60 and 07, R130: the firing that ends a run of fixed count leaves BLOCKED with the rest discarded. -/
theorem test_firing_ends_run :
    let o := fun v due => (⟨v, .test, due, some 9000, none, some 5, ⟨false, false, false, false⟩⟩ : Order)
    let s := inState .testing { rest with
      cal := ⟨[o 0 1000000, o 6 1016667, o 1 1033333, o 7 1050000], 4, 0, 0, []⟩
      ctl := { rest.ctl with programmed := 1, remaining := 1 } }
    let t := after .firing s
    t.ctl.state = .blocked ∧ t.ctl.testDone = true ∧ t.cal.fired = 1 ∧ t.cal.discarded = 3 ∧ t.cal.orders = [] := by
  decide +kernel

/-! ## Witnesses: steps, resets and the Table Store

Each theorem meets the hypotheses of the statement it is named after, one conjunct for each clause, at the ends of the ranges. -/

/-- A check of `Settled` that evaluates. -/
def rests (s : State) : Bool :=
  allSources.all (fun src => isEdgeSource src ||
    (if conditionHolds s src then isPending s src || isInAction s src
      else !isPending s src && !(isClearedSource src && isInAction s src))) &&
  (nextGrant s).isNone

theorem settled_of_rests {s : State} (h : rests s = true) : Settled s := by
  simp only [rests, Bool.and_eq_true, List.all_eq_true, Option.isNone_iff_eq_none] at h
  refine ⟨fun src he => ?_, h.2⟩
  have hs := h.1 src (by cases src <;> decide)
  rw [he, Bool.false_or] at hs
  refine ⟨fun hc => ?_, fun hc => ?_⟩
  · rw [hc] at hs
    simpa using hs
  · rw [hc] at hs
    simp only [Bool.false_eq_true, if_false, Bool.and_eq_true, Bool.not_eq_true', Bool.and_eq_false_imp] at hs
    exact hs

/-- A check of `Placed` that evaluates. -/
def placed (s : State) : Bool :=
  allSources.all (fun src => !(isPending s src && isInAction s src)) && decide (s.prot.inAction.map (·.source)).Nodup

theorem placed_of_check {s : State} (h : placed s = true) : Placed s := by
  simp only [placed, Bool.and_eq_true, List.all_eq_true, decide_eq_true_eq] at h
  refine ⟨fun src hs => ?_, h.2⟩
  have := h.1 src (by cases src <;> decide)
  rw [hs.1, hs.2] at this
  exact absurd this (by decide)

theorem witness_StepRunsFrontCommand :
    ({ rest with pending := [.status, .block] } : State).pending = .status :: [.block] := rfl

theorem witness_IdleStepTakesOrTicks :
    let sending := fun n => ({ rest with port := { rest.port with
      requests := [⟨7, .request .status⟩], outgoing := List.replicate n (.reply .block 7 .done .empty),
      sendStart := some 999999 } } : State)
    ((sending 16).pending = [] ∧ TakesRequest (sending 16) 7 .status) ∧
    (State.reset.pending = [] ∧ State.reset.port.requests = [] ∧ ∀ t ∈ armedTimes State.reset, State.reset.now < t) ∧
    ((sending 17).pending = [] ∧ 16 < (sending 17).port.outgoing.length ∧
      ∀ t ∈ armedTimes (sending 17), (sending 17).now < t) := by
  unfold TakesRequest
  decide +kernel

theorem witness_RestartResetsAtRest :
    (∀ s ∈ [rest, State.reset], TakesRequest (ask .restart s) 7 .restart ∧ isAtRest (ask .restart s).ctl.state = true) ∧
    (∀ c ∈ [ConvState.precheck, .testHeld], let s := ask .restart (inState c rest)
      TakesRequest s 7 .restart ∧ isAtRest s.ctl.state = false ∧ Quiet s) := by
  unfold TakesRequest Quiet Calm Unmoved
  decide +kernel

theorem witness_SetupBeginLoadsDefaults :
    let a := ask .setupBegin rest
    let b := ask .setupBegin (inState .unconfigured (acting .orderStale rest))
    (TakesRequest a 7 .setupBegin ∧ a.store.step = 0 ∧ a.ctl.state = .blocked ∧ a.prot.inAction = []) ∧
    (TakesRequest b 7 .setupBegin ∧ b.store.step = 0 ∧ b.ctl.state = .unconfigured) := by
  unfold TakesRequest
  decide +kernel

/-- SETUP_PHASE at the ends of its ranges (R140). -/
def phaseEnds : List PhaseValues := [⟨50, 200, 6⟩, ⟨60, 2000, 60⟩]

/-- SETUP_ANGLES at the ends of its ranges (R140). -/
def angleEnds : List AngleValues :=
  [⟨200, 12000, 200, 200, 50, 50, 0, -100, 1000, 6000, 500, 1⟩,
    ⟨3000, 17000, 17000, 17000, 3000, 6000, 3, 100, 3000, 12000, 5000, 8⟩]

/-- SETUP_GUARD at the ends of its ranges (R140). -/
def guardEnds : List GuardValues :=
  [⟨500, 0, 10, 10, 0, 10, 2, 50, 0, 20, 5, 2, 5⟩,
    ⟨1000, 2000, 500, 500, 2000, 500, 10, 2000, 500, 1000, 100, 100, 200⟩]

/-- SETUP_LEVELS at the ends of its ranges (R140). -/
def levelEnds : List LevelValues := [⟨16, 0, 0, 1, 1⟩, ⟨120, 16, 16, 15, 15⟩]

theorem witness_SetupRecordsAccepted :
    isAtRest rest.ctl.state = true ∧
    (∀ v ∈ phaseEnds, TakesRequest (ask (.setupPhase v) (atStep 1 rest)) 7 (.setupPhase v) ∧ phaseInRange v = true) ∧
    (∀ v ∈ angleEnds, TakesRequest (ask (.setupAngles (some .inverter) v) (atStep 2 rest)) 7
      (.setupAngles (some .inverter) v) ∧ anglesInRange v = true) ∧
    (∀ v ∈ guardEnds, TakesRequest (ask (.setupGuard v (some .openMode)) (atStep 3 rest)) 7
      (.setupGuard v (some .openMode)) ∧ guardInRange v = true) ∧
    (∀ v ∈ levelEnds, TakesRequest (ask (.setupLevels v) (atStep 4 rest)) 7 (.setupLevels v) ∧ levelsInRange v = true) := by
  unfold TakesRequest
  decide +kernel

theorem witness_SetupEndLeadsToBlocked :
    ∀ c ∈ [ConvState.unconfigured, .blocked], let s := ask .setupEnd (inState c (atStep 5 rest))
      TakesRequest s 7 .setupEnd ∧ isAtRest s.ctl.state = true ∧ s.store.step = 5 := by
  unfold TakesRequest
  decide +kernel

theorem witness_SetupRecordsRefused :
    let away := ask .setupEnd (inState .bypass rest)
    let busy := ask .setupBegin (acting .orderStale rest)
    let opened := ask .setupBegin (atStep 1 rest)
    let early := ask .setupEnd (atStep 4 rest)
    (TakesRequest away 7 .setupEnd ∧ isSetupRecord (requestKind .setupEnd) = true ∧ isAtRest away.ctl.state = false ∧
      Unmoved away.ctl.state) ∧
    (TakesRequest busy 7 .setupBegin ∧ isAtRest busy.ctl.state = true ∧ busy.ctl.state = .blocked ∧ busy.prot.inAction ≠ []) ∧
    (TakesRequest opened 7 .setupBegin ∧ opened.prot.inAction = [] ∧ opened.store.step ≠ 0) ∧
    (TakesRequest early 7 .setupEnd ∧ isAtRest early.ctl.state = true ∧ early.store.step ≠ recordStep .setupEnd) ∧
    (phaseInRange ⟨50, 199, 6⟩ = false ∧ phaseInRange ⟨60, 2001, 60⟩ = false ∧ phaseInRange ⟨55, 200, 6⟩ = false ∧
      TakesRequest (ask (.setupPhase ⟨50, 199, 6⟩) (atStep 1 rest)) 7 (.setupPhase ⟨50, 199, 6⟩)) ∧
    (TakesRequest (ask (.setupAngles none Config.defaultAngles) (atStep 2 rest)) 7 (.setupAngles none Config.defaultAngles) ∧
      anglesInRange { Config.defaultAngles with alphaStart := 499 } = false) ∧
    (TakesRequest (ask (.setupGuard Config.defaultGuard none) (atStep 3 rest)) 7 (.setupGuard Config.defaultGuard none) ∧
      guardInRange { Config.defaultGuard with cfLimit := 11 } = false) ∧
    (TakesRequest (ask (.setupLevels ⟨16, 4, 0, 1, 1⟩) (atStep 4 rest)) 7 (.setupLevels ⟨16, 4, 0, 1, 1⟩) ∧
      levelsInRange ⟨16, 4, 0, 1, 1⟩ = false ∧ recordStep .setupLevels = 4) := by
  unfold TakesRequest Unmoved
  decide +kernel

theorem witness_StoreWritesAccepted :
    let e := Vector.replicate 8 9000
    let y := #v[6, 5, 4, 3, 2, 1]
    let d := #v[12, 11, 10, 9, 8, 7]
    let top := { rest with store := { rest.store with tableGen := 65535, mapGen := 65535 } }
    isAtRest rest.ctl.state = true ∧
    (TakesRequest (ask (.tableWrite 32 e) rest) 7 (.tableWrite 32 e) ∧ ∀ x ∈ e.toList, x ≤ 9000) ∧
    (TakesRequest (ask (.tableWrite 0 e) top) 7 (.tableWrite 0 e) ∧ top.store.tableGen = 65535) ∧
    (TakesRequest (ask (.mapWrite y d) rest) 7 (.mapWrite y d) ∧ mapInRange y d = true ∧ rest.store.mapLock = false) ∧
    TakesRequest (ask .mapLock rest) 7 .mapLock := by
  unfold TakesRequest
  decide +kernel

theorem witness_StoreWritesRefused :
    let e := Vector.replicate 8 9000
    let bad := #v[0, 0, 0, 0, 0, 0, 0, 9001]
    let y := #v[1, 2, 3, 5, 5, 6]
    let d := #v[7, 8, 9, 10, 11, 12]
    let locked := { rest with store := { rest.store with mapLock := true } }
    (TakesRequest (ask .mapLock (inState .retard rest)) 7 .mapLock ∧ isAtRest (inState .retard rest).ctl.state = false ∧
      Unmoved (inState .retard rest).ctl.state) ∧
    (TakesRequest (ask (.tableWrite 33 e) rest) 7 (.tableWrite 33 e) ∧ isAtRest rest.ctl.state = true) ∧
    (TakesRequest (ask (.tableWrite 32 bad) rest) 7 (.tableWrite 32 bad) ∧ ∃ x ∈ bad.toList, 9000 < x) ∧
    (TakesRequest (ask (.mapWrite y d) locked) 7 (.mapWrite y d) ∧ locked.store.mapLock = true) ∧
    (TakesRequest (ask (.mapWrite y d) rest) 7 (.mapWrite y d) ∧ rest.store.mapLock = false ∧ mapInRange y d = false) := by
  unfold TakesRequest Unmoved
  decide +kernel

theorem witness_TableReadShowsTheStore :
    ∀ sel ∈ [some (Selector.row 0), some (.row 32), some .map, some .setup, none, some (.row 33)],
      Settled (ask (.tableRead sel) rest) ∧ TakesRequest (ask (.tableRead sel) rest) 7 (.tableRead sel) := by
  have h : ∀ sel ∈ [some (Selector.row 0), some (.row 32), some .map, some .setup, none, some (.row 33)],
      rests (ask (.tableRead sel) rest) = true := by decide +kernel
  exact fun sel hs => ⟨settled_of_rests (h sel hs), rfl, Nat.zero_le _⟩

/-! ## Witnesses: the converter -/

theorem witness_DeblockEntersPrecheck :
    let s := ask (.deblock 33 1) rest
    TakesRequest s 7 (.deblock 33 1) ∧ s.ctl.state = .blocked ∧ tableComplete s.store = true ∧ 33 = s.store.tableGen ∧
      1 = s.store.mapGen ∧ s.pru.lock = .locked ∧ stopInAction s = false ∧ redundancyLost s = false ∧ Calm s ∧
      s.port.linkSilent = false := by
  unfold TakesRequest Calm
  decide +kernel

theorem witness_DeblockLeavesBypass :
    let a := ask (.deblock 33 1) (inState .bypass rest)
    let b := { a with pru := { a.pru with lock := .holdover } }
    (TakesRequest a 7 (.deblock 33 1) ∧ a.ctl.state = .bypass ∧ tableComplete a.store = true ∧ 33 = a.store.tableGen ∧
      1 = a.store.mapGen ∧ a.pru.lock = .locked ∧ stopInAction a = false ∧ redundancyLost a = false ∧ Calm a) ∧
    (TakesRequest b 7 (.deblock 33 1) ∧ b.pru.lock = .holdover ∧ Calm b) := by
  unfold TakesRequest Calm
  decide +kernel

theorem witness_StartRequestsRefusedInOrder :
    let r := Request.deblock 33 1
    let q := Request.testStart 18000 65535 33 1
    let bare := { rest with store := { rest.store with
      table := rest.store.table.set 32 ⟨false, Vector.replicate 8 0⟩ } }
    let free := { rest with pru := { rest.pru with lock := .holdover } }
    let acquiring := inState .bypass { rest with pru := { rest.pru with lock := .acquiring } }
    (TakesRequest (ask r (inState .retard rest)) 7 r ∧ Quiet (ask r (inState .retard rest)) ∧
      TakesRequest (ask q (inState .bypass rest)) 7 q ∧ Quiet (ask q (inState .bypass rest))) ∧
    (TakesRequest (ask (.deblock 65536 1) rest) 7 (.deblock 65536 1) ∧
      TakesRequest (ask (.deblock 33 65536) (inState .bypass rest)) 7 (.deblock 33 65536) ∧
      TakesRequest (ask (.testStart 18001 0 33 1) rest) 7 (.testStart 18001 0 33 1) ∧
      TakesRequest (ask (.testStart 0 65536 33 1) rest) 7 (.testStart 0 65536 33 1) ∧ rest.ctl.state = .blocked) ∧
    (TakesRequest (ask r bare) 7 r ∧ TakesRequest (ask q bare) 7 q ∧ tableComplete bare.store = false ∧
      bare.ctl.state = .blocked) ∧
    (TakesRequest (ask (.deblock 65535 1) rest) 7 (.deblock 65535 1) ∧ tableComplete rest.store = true ∧
      65535 ≠ rest.store.tableGen) ∧
    (TakesRequest (ask r free) 7 r ∧ free.pru.lock ≠ .locked ∧ TakesRequest (ask r acquiring) 7 r ∧
      acquiring.ctl.state = .bypass ∧ acquiring.pru.lock = .acquiring) ∧
    (∀ c ∈ [ConvState.blocked, .bypass], let s := inState c (acting .linkLost rest)
      TakesRequest (ask r s) 7 r ∧ stopInAction s = true) ∧
    TakesRequest (ask q (acting .linkLost rest)) 7 q ∧
    (∀ c ∈ [ConvState.blocked, .bypass], let s := inState c (damaged rest)
      TakesRequest (ask r s) 7 r ∧ stopInAction s = false ∧ redundancyLost s = true) := by
  unfold TakesRequest Quiet Calm Unmoved
  dsimp only
  refine ⟨?_, ?_, ?_, ?_, ?_, ?_, ?_, ?_⟩ <;> decide +kernel

theorem witness_BlockLeadsToBlocked :
    (∀ c ∈ [ConvState.precheck, .running, .bypass, .retard, .testing, .testHeld],
      TakesRequest (ask .block (inState c rest)) 7 .block ∧ isGuarded (ask .block (inState c rest)).ctl.state = true) ∧
    (TakesRequest (ask .block rest) 7 .block ∧ rest.ctl.state = .blocked) ∧
    (TakesRequest (ask .block State.reset) 7 .block ∧ State.reset.ctl.state = .unconfigured) := by
  unfold TakesRequest
  decide +kernel

theorem witness_BypassHoldsTwoLegs :
    (∀ x ∈ [((none : Option Valve), (none : Option Valve)), (some 0, some 6), (some 3, some 9), (some 2, some 8), (some 5, some 11),
        (some 1, some 7), (some 4, some 10)],
      let s := ask .bypass (inState .running { rest with ctl := { rest.ctl with lastY := x.1, lastD := x.2 } })
      TakesRequest s 7 .bypass ∧ Quiet s ∧ s.ctl.state = .running ∧ s.ctl.lastY = x.1 ∧ s.ctl.lastD = x.2) ∧
    (TakesRequest (ask .bypass rest) 7 .bypass ∧ Quiet (ask .bypass rest) ∧ rest.ctl.state ≠ .running) := by
  unfold TakesRequest Quiet Calm Unmoved
  dsimp only
  refine ⟨?_, ?_⟩ <;> decide +kernel

theorem witness_TestRunStartsSuspendsResumes :
    let a := ask (.testStart 18000 65535 33 1) rest
    let b := ask (.testStart 0 0 33 1) rest
    let c := ask .testSuspend (inState .testing rest)
    let d := ask .testResume (inState .testHeld rest)
    let e := ask .testResume (inState .testHeld (acting .valveTrip rest))
    (Calm a ∧ TakesRequest a 7 (.testStart 18000 65535 33 1) ∧ a.ctl.state = .blocked ∧ a.port.linkSilent = false ∧
      tableComplete a.store = true ∧ 33 = a.store.tableGen ∧ 1 = a.store.mapGen ∧ a.pru.lock = .locked ∧
      stopInAction a = false) ∧
    (Calm b ∧ TakesRequest b 7 (.testStart 0 0 33 1)) ∧
    (Calm c ∧ TakesRequest c 7 .testSuspend ∧ c.ctl.state = .testing) ∧
    (Calm d ∧ TakesRequest d 7 .testResume ∧ d.ctl.state = .testHeld ∧ stopInAction d = false) ∧
    (∀ x ∈ [ConvState.running, .testHeld], let s := ask .testSuspend (inState x rest)
      Quiet s ∧ TakesRequest s 7 .testSuspend ∧ s.ctl.state ≠ .testing) ∧
    (∀ x ∈ [ConvState.testing, .blocked], let s := ask .testResume (inState x rest)
      Quiet s ∧ TakesRequest s 7 .testResume ∧ s.ctl.state ≠ .testHeld) ∧
    (Quiet e ∧ TakesRequest e 7 .testResume ∧ e.ctl.state = .testHeld ∧ stopInAction e = true) := by
  unfold TakesRequest Quiet Calm Unmoved
  dsimp only
  refine ⟨?_, ?_, ?_, ?_, ?_, ?_, ?_⟩ <;> decide +kernel

theorem witness_AngleOrderPends :
    let a := ask (.angleOrder 18000) rest
    let b := ask (.angleOrder 0) { rest with acu := { rest.acu with waiting := some ⟨2000, 103⟩ } }
    let c := ask (.angleOrder 18001) rest
    (TakesRequest a 7 (.angleOrder 18000) ∧ Calm a ∧ a.acu.waiting = none) ∧
    (TakesRequest b 7 (.angleOrder 0) ∧ Calm b ∧ b.acu.waiting = some ⟨2000, 103⟩) ∧
    (TakesRequest c 7 (.angleOrder 18001) ∧ Calm c) := by
  unfold TakesRequest Calm
  decide +kernel

theorem witness_PhaseRestartAtRest :
    (TakesRequest (ask .phaseRestart rest) 7 .phaseRestart ∧ isAtRest rest.ctl.state = true) ∧
    (TakesRequest (ask .phaseRestart (inState .running rest)) 7 .phaseRestart ∧ Calm (ask .phaseRestart (inState .running rest)) ∧
      isAtRest (inState .running rest).ctl.state = false) := by
  unfold TakesRequest Calm
  decide +kernel

/-! ## Witnesses: the resolver -/

theorem witness_ProtMaskReplacesTheSet :
    ∀ l ∈ [[], [3, 7], [2], [8]], TakesRequest (ask (.protMask l) rest) 7 (.protMask l) ∧ Calm (ask (.protMask l) rest) := by
  unfold TakesRequest Calm
  decide +kernel

/-- VALVE_TRIP in action at a station with a valve above R; LEVEL_DEGRADED waits below it. -/
def tripped : State :=
  { acting .valveTrip (damaged rest) with
    prot := { (acting .valveTrip rest).prot with waiting := { noSources with levelDegraded := true } } }

theorem witness_ProtEndRefusals :
    (Settled (ask (.protEnd 8) rest) ∧ TakesRequest (ask (.protEnd 8) rest) 7 (.protEnd 8)) ∧
    (Settled (ask (.protEnd 7) rest) ∧ TakesRequest (ask (.protEnd 7) rest) 7 (.protEnd 7) ∧
      sourceNumber .orderStale = 7 ∧ isInAction (ask (.protEnd 7) rest) .orderStale = false) ∧
    (Settled (ask (.protEnd 0) tripped) ∧ TakesRequest (ask (.protEnd 0) tripped) 7 (.protEnd 0) ∧
      sourceNumber .valveTrip = 0 ∧ isInAction (ask (.protEnd 0) tripped) .valveTrip = true ∧
      redundancyLost (ask (.protEnd 0) tripped) = true) ∧
    (Settled (ask .protEndTop rest) ∧ TakesRequest (ask .protEndTop rest) 7 .protEndTop ∧
      (ask .protEndTop rest).prot.inAction = []) ∧
    (Settled (ask .protEndTop tripped) ∧ TakesRequest (ask .protEndTop tripped) 7 .protEndTop ∧
      isInAction (ask .protEndTop tripped) .valveTrip = true ∧ redundancyLost (ask .protEndTop tripped) = true) := by
  unfold TakesRequest
  refine ⟨⟨settled_of_rests ?_, ?_⟩, ⟨settled_of_rests ?_, ?_⟩, ⟨settled_of_rests ?_, ?_⟩, ⟨settled_of_rests ?_, ?_⟩,
    settled_of_rests ?_, ?_⟩ <;> decide +kernel

theorem witness_HostEndsASource :
    let a := ask (.protEnd 3) (acting .commutationFail rest)
    let b := ask .protEndTop (acting .valveTrip rest)
    (Placed a ∧ TakesRequest a 7 (.protEnd (sourceNumber .commutationFail)) ∧ Calm a ∧
      isInAction a .commutationFail = true ∧ conditionHolds a .commutationFail = false ∧
      hasSource a.prot.repeats .commutationFail = false) ∧
    (Placed b ∧ TakesRequest b 7 .protEndTop ∧ Calm b ∧ isInAction b .valveTrip = true ∧ redundancyLost b = false ∧
      Unmoved b.ctl.state ∧ ∀ src, isInAction b src = true → sourceNumber .valveTrip ≤ sourceNumber src) := by
  unfold TakesRequest Calm Unmoved
  refine ⟨⟨placed_of_check ?_, ?_⟩, placed_of_check ?_, ?_, ?_, ?_, ?_, ?_, fun src _ => Nat.zero_le _⟩ <;> decide +kernel

theorem witness_ProtStatusShowsTheResolver :
    Settled (ask .protStatus (acting .phaseLost rest)) ∧
      TakesRequest (ask .protStatus (acting .phaseLost rest)) 7 .protStatus :=
  ⟨settled_of_rests (by decide +kernel), rfl, Nat.zero_le _⟩

/-! ## Witnesses: the Level Monitor's requests and the port -/

/-- A snapshot of twelve valves of 16 levels, with one failed level at place `mark` of its order. -/
def snap (mark : Nat) : Snapshot :=
  ⟨Vector.ofFn fun v => (List.range 16).map fun l =>
    if v.val * 16 + l = mark then ⟨.failedShort, 3, 0, 0, some 4⟩ else levelCleared, Vector.replicate 12 0, 16, 500⟩

/-- The station with a snapshot held. -/
def holding (c : Snapshot) (s : State) : State := { s with snapshot := some c }

theorem witness_SnapshotLatchedHeldReleased :
    (Settled (ask .levelLatch rest) ∧ TakesRequest (ask .levelLatch rest) 7 .levelLatch ∧ rest.snapshot = none) ∧
    (Settled (ask .levelLatch (holding (snap 0) rest)) ∧
      TakesRequest (ask .levelLatch (holding (snap 0) rest)) 7 .levelLatch ∧
      (holding (snap 0) rest).snapshot = some (snap 0)) ∧
    (Settled (ask .levelRelease rest) ∧ TakesRequest (ask .levelRelease rest) 7 .levelRelease) := by
  unfold TakesRequest
  refine ⟨⟨settled_of_rests ?_, ?_⟩, ⟨settled_of_rests ?_, ?_⟩, settled_of_rests ?_, ?_⟩ <;> decide +kernel

theorem witness_LevelReadShowsTheSnapshot :
    (Settled (ask (.levelRead 1 1) rest) ∧ TakesRequest (ask (.levelRead 1 1) rest) 7 (.levelRead 1 1) ∧
      rest.snapshot = none) ∧
    (∀ p ∈ [(0, 1), (13, 1), (1, 0), (1, 17), (1, 1), (12, 16)],
      Settled (ask (.levelRead p.1 p.2) (holding (snap 0) rest)) ∧
        TakesRequest (ask (.levelRead p.1 p.2) (holding (snap 0) rest)) 7 (.levelRead p.1 p.2)) ∧
    (valveNumber 0 = 1 ∧ valveNumber 11 = 12 ∧ (snap 0).nL = 16) := by
  have h : ∀ p ∈ [(0, 1), (13, 1), (1, 0), (1, 17), (1, 1), (12, 16)],
      rests (ask (.levelRead p.1 p.2) (holding (snap 0) rest)) = true := by decide +kernel
  exact ⟨⟨settled_of_rests (by decide +kernel), ⟨rfl, Nat.zero_le _⟩, rfl⟩,
    fun p hp => ⟨settled_of_rests (h p hp), rfl, Nat.zero_le _⟩, by decide⟩

theorem witness_LevelFindScansTheSnapshot :
    let find := fun v l states => ask (.levelFind v l states) (holding (snap 127) rest)
    (Settled (ask (.levelFind 1 1 []) rest) ∧ TakesRequest (ask (.levelFind 1 1 []) rest) 7 (.levelFind 1 1 [])) ∧
    (∀ p ∈ [(1, 1, [some LevelState.failedShort]), (1, 1, []), (5, 1, [some .failedNofire]), (12, 16, []), (0, 1, []),
        (13, 1, []), (1, 0, []), (1, 17, []), (1, 1, [none])],
      Settled (find p.1 p.2.1 p.2.2) ∧ TakesRequest (find p.1 p.2.1 p.2.2) 7 (.levelFind p.1 p.2.1 p.2.2)) ∧
    (∀ v : Valve, (snap 127).levels[v].length = (snap 127).nL) ∧
    ((∀ j, j < 127 → ((snap 127).levels.toList.flatten[j]?).map (·.state) = some .unknown) ∧
      ((snap 127).levels.toList.flatten[127]?).map (·.state) = some .failedShort) ∧
    (12 * (snap 127).nL ≤ (5 - 1) * (snap 127).nL + (1 - 1) + 128 ∧ (1 - 1) * (snap 127).nL + (1 - 1) + 128 < 12 * (snap 127).nL) := by
  have h : ∀ p ∈ [(1, 1, [some LevelState.failedShort]), (1, 1, []), (5, 1, [some .failedNofire]), (12, 16, []), (0, 1, []),
      (13, 1, []), (1, 0, []), (1, 17, []), (1, 1, [none])],
      rests (ask (.levelFind p.1 p.2.1 p.2.2) (holding (snap 127) rest)) = true := by decide +kernel
  exact ⟨⟨settled_of_rests (by decide +kernel), rfl, Nat.zero_le _⟩,
    fun p hp => ⟨settled_of_rests (h p hp), rfl, Nat.zero_le _⟩, by decide +kernel, by decide +kernel, by decide +kernel⟩

theorem witness_LevelsClearedAndExcluded :
    let away := inState .running rest
    (TakesRequest (ask (.levelClear 1 none) away) 7 (.levelClear 1 none) ∧ Calm (ask (.levelClear 1 none) away) ∧
      (ask (.levelClear 1 none) away).ctl.state ≠ .blocked) ∧
    (∀ p ∈ [(0, 1), (13, 1), (1, 0), (1, 17)], TakesRequest (ask (.levelExclude p.1 p.2) rest) 7 (.levelExclude p.1 p.2)) ∧
    (TakesRequest (ask (.levelClear 12 none) rest) 7 (.levelClear 12 none) ∧ 1 ≤ rest.store.setup.levels.nL) ∧
    (∀ p ∈ [(1, 1), (12, 16)], TakesRequest (ask (.levelClear p.1 (some p.2)) rest) 7 (.levelClear p.1 (some p.2)) ∧
      TakesRequest (ask (.levelExclude p.1 p.2) rest) 7 (.levelExclude p.1 p.2) ∧ 1 ≤ p.2 ∧
      p.2 ≤ rest.store.setup.levels.nL) ∧
    (rest.ctl.state = .blocked ∧ valveNumber 0 = 1 ∧ valveNumber 11 = 12) := by
  unfold TakesRequest Calm
  decide +kernel

theorem witness_StatusShowsAndClears :
    Settled (ask .status rest) ∧ TakesRequest (ask .status rest) 7 .status :=
  ⟨settled_of_rests (by decide +kernel), rfl, Nat.zero_le _⟩

theorem witness_HistoryReadShowsTheRing :
    (Settled (ask (.historyRead 63) rest) ∧ TakesRequest (ask (.historyRead 63) rest) 7 (.historyRead 63)) ∧
    (Settled (ask (.historyRead 64) rest) ∧ TakesRequest (ask (.historyRead 64) rest) 7 (.historyRead 64)) :=
  ⟨⟨settled_of_rests (by decide +kernel), rfl, Nat.zero_le _⟩, settled_of_rests (by decide +kernel), rfl, Nat.zero_le _⟩

/-- The station with one frame body, of tag 7, at the head of its queue and 16 records to send. -/
def holds (b : FrameBody) (s : State) : State :=
  { s with port := { s.port with
      requests := [⟨7, b⟩], outgoing := List.replicate 16 (.noticeEnd .orderStale .host 4), sendStart := some 999999 } }

theorem witness_UnknownAndMisfitRequestsAnswered :
    (∀ b ∈ [FrameBody.unknownKind 0, .unknownKind 32, .badLength .status, .badLength .setupEnd, .badLength .block,
        .badLength .angleOrder],
      Calm (holds b rest) ∧ (holds b rest).port.outgoing.length ≤ 16 ∧ (holds b rest).port.requests.head? = some ⟨7, b⟩) ∧
    (isReadOnly .status = true ∧ isSetupRecord .setupEnd = true ∧ isReadOnly .block = false ∧ isSetupRecord .block = false) := by
  unfold Calm
  decide +kernel

theorem witness_ControlFrameJoinsTheQueue :
    let q := fun n => ({ rest with port := { rest.port with
      requests := List.replicate n ⟨7, .request .status⟩, outgoing := List.replicate 17 (.noticeEnd .orderStale .host 4) } } : State)
    let late := { rest with receivers := { rest.receivers with control := .awaitLength 999959 } }
    ((0x00 : Byte).toNat = 0 ∧ 31 < (0x20 : Byte).toNat ∧ requestCode .setupBegin = (0x01 : Byte).toNat ∧
      requestCode .historyRead = (0x1F : Byte).toNat) ∧
    (Quiet (q 7) ∧ betweenFrames .control (q 7) = true ∧ (q 7).port.requests.length < 8) ∧
    (Quiet (q 8) ∧ betweenFrames .control (q 8) = true ∧ ¬(q 8).port.requests.length < 8) ∧
    (Quiet late ∧ betweenFrames .control late = true) := by
  unfold Quiet Calm Unmoved
  decide +kernel

theorem witness_RecordSentLeavesTheList :
    ∀ x ∈ [(OutRecord.reply .block 7 .state .empty, 3), (.unknownReply 7 0x2A, 4)],
      let sending := { rest with
        port := { rest.port with outgoing := [x.1], sendStart := some 1000000 }, pru := { rest.pru with pred := none } }
      sending.port.outgoing = x.1 :: [] ∧ sending.port.sendStart = some 1000000 ∧ recordLength x.1 = x.2 ∧
        canReach (1000000 + 8 * (4 + x.2)) sending = true := by
  decide +kernel

/-- The two bytes of a value and of its successor differ. -/
theorem twoBytes_succ_ne (c : BitVec 16) : twoBytes (c + 1) ≠ twoBytes c := by
  intro h
  have h0 : (c + 1).extractLsb' 0 8 = c.extractLsb' 0 8 := by
    simp only [twoBytes, List.cons.injEq] at h
    exact h.2.1
  have h1 := congrArg BitVec.toNat h0
  simp only [BitVec.extractLsb'_toNat, BitVec.toNat_add] at h1
  simp at h1
  omega

/-- A frame of the greatest length, after its length byte, with a false CRC. -/
def longBad : List Byte :=
  List.replicate 250 0 ++ twoBytes (crc16 (250 :: List.replicate 250 0) + 1)

theorem longBad_length : longBad.length = (250 : Byte).toNat + 2 := by
  rw [longBad, List.length_append, List.length_replicate]
  rfl

theorem longBad_fails : longBad.drop 250 ≠ twoBytes (crc16 (250 :: longBad.take 250)) := by
  have hd : longBad.drop 250 = twoBytes (crc16 (250 :: List.replicate 250 0) + 1) := List.drop_left' List.length_replicate
  have ht : longBad.take 250 = List.replicate 250 0 := List.take_left' List.length_replicate
  rw [hd, ht]
  exact twoBytes_succ_ne _

theorem witness_FailedFramesChangeNothing :
    let bad := fun n => List.replicate (n + 2) (0 : Byte)
    let inside := fun r => ({ rest with
      receivers := { rest.receivers with measurement := r }, pru := { rest.pru with pred := none } } : State)
    (∀ line ∈ [Line.control, .measurement, .ret 11], lineReceiver rest.receivers line = .hunting) ∧
    ((bad 2).length = (2 : Byte).toNat + 2 ∧ (bad 2).drop 2 ≠ twoBytes (crc16 (2 :: (bad 2).take 2)) ∧
      ∃ rest : List Byte, rest.length = (250 : Byte).toNat + 2 ∧
        rest.drop 250 ≠ twoBytes (crc16 (250 :: rest.take 250))) ∧
    ((1 : Byte).toNat < 2 ∧ 250 < (251 : Byte).toNat) ∧
    ((0x42 : Byte) ≠ 0x40 ∧ (0x42 : Byte) ≠ 0x41 ∧ (List.replicate 4 (0 : Byte)).length ≠ 5 ∧
      (List.replicate 3 (0 : Byte)).length ≠ 2 ∧ (List.replicate 2 (0 : Byte)).length ≠ 1 ∧
      (List.replicate 18 (0 : Byte)).length < 19 ∧ (List.replicate 28 (9 : Byte))[18]? = some 9 ∧ 8 < (9 : Byte).toNat ∧
      (List.replicate 20 (0 : Byte))[18]? = some 0 ∧ (List.replicate 20 (0 : Byte)).length ≠ 19 + (0 : Byte).toNat) ∧
    (∀ r ∈ [Receiver.awaitLength 999959, .reading 5 [1] 999959],
      lineReceiver (inside r).receivers .measurement = r ∧ 999959 + 40 < (inside r).now) ∧
    (∀ r ∈ [Receiver.awaitLength 999990, .reading 5 [1] 999990],
      lineReceiver (inside r).receivers .measurement = r ∧ canReach (999990 + 41) (inside r) = true) ∧
    (∃ bytes, partnerFrame (Config.partnerTag .measurement 1000000) (.crossing 0 0) = some bytes ∧
      lineReceiver (inside (.reading 8 [1] 999960)).receivers .measurement = .reading 8 [1] 999960 ∧
      (inside (.reading 8 [1] 999960)).now ≤ 999960 + 40 ∧ ([1] : List Byte).length + bytes.length < 8 + 2) := by
  refine ⟨by decide, ⟨by decide, by decide +kernel, longBad, longBad_length, longBad_fails⟩, by decide, by decide,
    by decide +kernel, by decide +kernel, _, rfl, ?_⟩
  exact ⟨rfl, Nat.le_refl _, Nat.lt_of_lt_of_eq (Nat.lt_succ_self _) rfl⟩

theorem witness_PartnerFramesReadBack :
    (List.replicate 248 (0 : Byte)).length ≤ 248 ∧
    (∀ c ∈ [Instr.sample 255 (-32768) 65535, .sample 0 32767 0, .crossing 255 255, .reappear 3 255,
      .returnRecord 3 ⟨255, 65535, BitVec.ofNat 120 (2 ^ 120 - 1), [255, 1, 2, 3, 4, 5, 6, 7]⟩,
      .returnRecord 3 ⟨0, 0, 0, []⟩],
      wellFormed c = true ∧ (partnerFrame 9 c).isSome = true) := by
  decide +kernel

/-! ## Witnesses: the phase reference and the angle -/

/-- The station with a PRU of a lock state, its counts, and a prediction at 1,000,000 of half-width `w`. -/
def phased (l : LockState) (good flywheel holdover w : Nat) (s : State) : State :=
  { s with pru := ⟨l, 200000, 966667, 2, 100, some ⟨1000000, 1000, w⟩, good, flywheel, holdover, 65535⟩ }

/-- An order of the tests. -/
def order (v : Valve) (kind : OrderKind) (due : Nat) : Order :=
  ⟨v, kind, due, some 9000, none, some 5, ⟨false, false, false, false⟩⟩

/-- The station in a firing state with two orders in the list. -/
def listing (c : ConvState) (kind : OrderKind) (mode : TestMode) (remaining : Nat) : State :=
  inState c { rest with
    cal := ⟨[order 0 kind 1000500, order 6 kind 1000700], 2, 0, 0, []⟩
    ctl := { rest.ctl with testMode := mode, programmed := 2, remaining := remaining } }

theorem witness_CrossingStartsOrIsRejected :
    let off := { rest with pru := ⟨.unlocked, 200000, 0, 0, 0, none, 0, 0, 0, 0⟩ }
    (off.pru.lock = .unlocked ∧ betweenFrames .measurement off = true ∧ Settled off ∧ TestCountInv off) ∧
    (Settled rest ∧ TestCountInv rest ∧ betweenFrames .measurement rest = true ∧ rest.pru.lock ≠ .unlocked ∧
      rest.pru.pred = some ⟨1000000, 1000, 1000⟩ ∧ 3 ≠ rest.pru.k ∧ (998999 - 0) + 1000 < 1000000) := by
  refine ⟨⟨rfl, rfl, settled_of_rests (by decide +kernel), by unfold TestCountInv; decide⟩,
    settled_of_rests (by decide +kernel), by unfold TestCountInv; decide, by decide⟩

theorem witness_CrossingAcceptedCorrects :
    (∀ x ∈ [(LockState.locked, 0, 1000, 1001000, (1000 : Int)), (.locked, 0, 1000, 999000, -1000), (.acquiring, 11, 4000, 1004000, 4000),
        (.acquiring, 10, 4000, 1001000, 1000), (.acquiring, 11, 4000, 999000, -1000), (.holdover, 1, 1000, 1000000, 0),
        (.holdover, 2, 1000, 1000000, 0)],
      let s := { phased x.1 x.2.1 0 3 x.2.2.1 rest with now := x.2.2.2.1 }
      betweenFrames .measurement s = true ∧ s.pru.pred = some ⟨1000000, 1000, x.2.2.1⟩ ∧ x.2.2.2.2 = ((s.now - 0 : Nat) : Int) - 1000000 ∧
        x.2.2.2.2.natAbs ≤ x.2.2.1) := by
  decide +kernel

theorem witness_CrossingMakesTwoOrders :
    ∀ x ∈ [(ConvState.running, OrderKind.normal, TestMode.fixed, 0), (.retard, .normal, .fixed, 0), (.testing, .test, .fixed, 5),
        (.testing, .test, .continuous, 1)],
      ∀ l ∈ [LockState.locked, .holdover, .acquiring],
        let s := phased l 0 0 0 1000 { listing x.1 x.2.1 x.2.2.1 x.2.2.2 with
          acu := { rest.acu with waiting := some ⟨2000, 101⟩, cfpMargin := 10 }
          ctl := { (listing x.1 x.2.1 x.2.2.1 x.2.2.2).ctl with programmed := 9 } }
        betweenFrames .measurement s = true ∧ s.pru.pred = some ⟨1000000, 1000, 1000⟩ ∧ s.pru.lock ≠ .unlocked ∧
          (((s.now - 0 : Nat) : Int) - 1000000).natAbs ≤ 1000 ∧ Quiet s ∧ TestCountInv s ∧ CalendarInv s ∧ RunGoesOn s := by
  unfold Quiet Calm Unmoved TestCountInv CalendarInv RunGoesOn
  decide +kernel

theorem witness_ArmedExpiryFlywheels :
    (∀ x ∈ [(LockState.acquiring, 4, 0), (.acquiring, 5, 0), (.locked, 1, 0), (.locked, 2, 0), (.holdover, 3, 16), (.holdover, 3, 17)],
      let s := phased x.1 0 x.2.1 x.2.2 1000 rest
      s.pru.pred = some ⟨1000000, 1000, 1000⟩ ∧ canReach (1000000 + 1000) s = true ∧ Quiet s ∧ CalendarInv s ∧ RunGoesOn s ∧
        TestCountInv s) ∧
    rest.store.setup.phase.holdoverLimit = 18 ∧
    (∀ x ∈ [(LockState.acquiring, 5, 0), (.holdover, 3, 17)],
      ∀ c ∈ [ConvState.precheck, .running, .bypass, .retard, .testing, .testHeld], ∀ r ∈ [Role.rectifier, .inverter],
        let s := phased x.1 0 x.2.1 x.2.2 1000 (inRole r (inState c { rest with ctl := { rest.ctl with testMode := .continuous } }))
        canReach (1000000 + 1000) s = true ∧ isGuarded s.ctl.state = true ∧ s.prot.inAction = [] ∧
          isPending s .valveTrip = false ∧ hasSource s.prot.masks .phaseLost = false ∧ RunGoesOn s) := by
  unfold Quiet Calm Unmoved CalendarInv RunGoesOn TestCountInv
  decide +kernel

theorem witness_AppliedAngleInBand :
    ∀ c ∈ [ConvState.running, .retard, .testing],
      let s := inState c { rest with acu := { rest.acu with testAngle := some 16500, aPrev := 500 } }
      anglesInRange s.store.setup.angles = true ∧ isFiring s.ctl.state = true ∧
        s.store.setup.angles.alphaMin ≤ s.acu.aPrev ∧ s.acu.aPrev ≤ s.store.setup.angles.alphaMax ∧
        (500 ≤ 16500 ∧ s.store.setup.angles.alphaMin = 500 ∧ s.store.setup.angles.alphaMax = 16500) ∧
        s.acu.testAngle = some 16500 ∧ s.store.setup.role = .rectifier := by
  decide +kernel

theorem witness_InverterAngleKeepsTheMargin :
    let s := inRole .inverter (inState .running rest)
    s.store.setup.role = .inverter ∧ s.ctl.state = .running ∧
      isInAction (acting .commutationFail s) .commutationFail = true := by
  decide +kernel

theorem witness_OverlapInterpolates :
    let st := { rest.store with table := Vector.replicate 33 ⟨true, Vector.replicate 8 9000⟩ }
    ∀ (i : Nat) (hi : i < 33) (j : Nat) (hj : j < 8), st.table[i].entries[j] ≤ 9000 := by
  intro st i hi j hj
  simp [st]

/-! ## Witnesses: samples, returns and reappearances -/

theorem witness_SampleHeldOrDropped :
    betweenFrames .measurement rest = true ∧ rest.meas.lastSeq = some 9 ∧ rest.meas.lastSeq ≠ some 10 ∧ Calm (inState .running rest) ∧
    (min 849 2000 < rest.store.setup.guard.cfpThreshold ∧ ¬ min 850 2000 < rest.store.setup.guard.cfpThreshold) ∧
    ({ rest with meas := { rest.meas with stale := true } } : State).meas.stale = true := by
  unfold Calm
  decide +kernel

theorem witness_StaleAndCfpHoldExpire :
    let s := inState .running { rest with
      meas := { rest.meas with staleTimer := some 1000010 }, acu := { rest.acu with cfpHold := some 1000010 } }
    Calm s ∧ canReach 1000010 s = true ∧ s.meas.staleTimer = some 1000010 ∧ s.acu.cfpHold = some 1000010 := by
  unfold Calm
  decide +kernel

/-- The station with valve 5's window, mark and armed flag. -/
def windowed (w : Nat) (mark armed : Bool) (s : State) : State :=
  { s with monitors := s.monitors.set 4 { s.monitors[(4 : Valve)] with window := w, accepted := mark, armed := armed } }

theorem witness_ReturnDiscardedOrClassified :
    let s := windowed 3 false false (inState .running rest)
    let probe := inState .precheck rest
    let levels := s.monitors[(4 : Valve)].levels
    let count := fun p : BitVec 120 => (List.range levels.length).countP fun i =>
      (levels[i]?.any fun e => isLive e.state) && p.getMsbD i
    let half := (s.store.setup.levels.nL - levels.countP fun e => !isLive e.state) / 2
    (betweenFrames (.ret 4) s = true ∧ betweenFrames (.ret 4) probe = true) ∧
    (valveNumber 4 = 5 ∧ (4 ≠ valveNumber 4) ∧ (2 ≠ s.monitors[(4 : Valve)].window) ∧
      (windowed 3 true false rest).monitors[(4 : Valve)].accepted = true ∧
      (rest.monitors[(4 : Valve)].window = 0 ∧ rest.ctl.state ≠ .precheck)) ∧
    (3 = s.monitors[(4 : Valve)].window ∧ s.monitors[(4 : Valve)].accepted = false ∧ (3 ≠ 0 ∨ s.ctl.state = .precheck)) ∧
    (0 = probe.monitors[(4 : Valve)].window ∧ probe.monitors[(4 : Valve)].accepted = false ∧ probe.ctl.state = .precheck) ∧
    (count (BitVec.ofNat 120 (127 * 2 ^ 113)) < half ∧ half ≤ count (BitVec.ofNat 120 (255 * 2 ^ 112))) := by
  decide +kernel

/-- The station with valve 5's sixteen levels one miss from FAILED_SHORT; R is 2. -/
def worn (s : State) : State :=
  { s with monitors := s.monitors.set 4 { s.monitors[(4 : Valve)] with levels := List.replicate 16 ⟨.suspect, 2, 0, 0, none⟩ } }

/-- A RETURN record of valve 5 for a window, without its first `n` of sixteen levels. -/
def missing (window n : Nat) : ReturnRecord := ⟨5, window, BitVec.ofNat 120 ((2 ^ (16 - n) - 1) * 2 ^ 104), []⟩

/-- The failed levels of valve 5. -/
def failedOf (s : State) : Nat := s.monitors[(4 : Valve)].levels.countP fun e => !isLive e.state

/-- A VALVE_TRIP edge in each converter state that may take a record, and with VALVE_TRIP in action. -/
theorem witness_ReturnDiscardedOrClassified_trip :
    (∀ c ∈ [ConvState.running, .bypass, .retard, .testing, .testHeld, .blocked], ∀ r ∈ [Role.rectifier, .inverter],
      let s := worn (windowed 3 false false (inRole r (inState c { rest with ctl := { rest.ctl with remaining := 1 } })))
      let t := after (.returnRecord 4 (missing 3 3)) s
      betweenFrames (.ret 4) s = true ∧ s.store.setup.levels.redundancy < failedOf t ∧ failedOf s < failedOf t ∧
        hasSource s.prot.masks .valveTrip = false ∧ rests s = true ∧ s.prot.inAction = [] ∧
        isInAction s .valveTrip = false) ∧
    (let s := worn (windowed 3 false false (acting .valveTrip rest))
      let t := after (.returnRecord 4 (missing 3 3)) s
      s.store.setup.levels.redundancy < failedOf t ∧ failedOf s < failedOf t ∧ isInAction s .valveTrip = true) ∧
    (let s := worn (windowed 3 false false rest)
      let t := after (.returnRecord 4 (missing 3 2)) s
      ¬ s.store.setup.levels.redundancy < failedOf t ∧ s.ctl.state ≠ .running ∧ isInAction s .valveTrip = false ∧
        isPending s .valveTrip = false) := by
  decide +kernel

/-- The probe answers in PRECHECK: no voltage, one level above R, one of several valves ready, and the twelfth. -/
theorem witness_ReturnDiscardedOrClassified_probe :
    let s := fun others => worn (inState .precheck { rest with
      ctl := { rest.ctl with ready := (Vector.replicate 12 others).set 4 false } })
    (missing 0 9).window = 0 ∧
    (isNoVoltage (s true).store.setup.levels.nL (missing 0 9) (s true).monitors[(4 : Valve)].levels = true) ∧
    (isNoVoltage (s true).store.setup.levels.nL (missing 0 3) (s true).monitors[(4 : Valve)].levels = false ∧
      (s true).store.setup.levels.redundancy < failedOf (after (.returnRecord 4 (missing 0 3)) (s true))) ∧
    (isNoVoltage (s true).store.setup.levels.nL (missing 0 2) (s true).monitors[(4 : Valve)].levels = false ∧
      ∀ x ∈ [false, true], failedOf (after (.returnRecord 4 (missing 0 2)) (s x)) ≤ (s x).store.setup.levels.redundancy ∧
        Calm (s x)) ∧
    ((0 : Valve) ≠ 4 ∧ (s false).ctl.ready[(0 : Valve)] = false) ∧
    (∀ w : Valve, w ≠ 4 → (s true).ctl.ready[w] = true) := by
  unfold Calm
  decide +kernel

theorem witness_CommutationFailureCounts :
    ∀ x ∈ [(Role.inverter, true, 2), (.inverter, true, 3), (.inverter, false, 0), (.rectifier, true, 0)],
      let s := inRole x.1 (windowed 3 false x.2.1 (inState .running { rest with prot := { rest.prot with cfRun := x.2.2 } }))
      betweenFrames (.ret 4) s = true ∧ 5 = valveNumber 4 ∧ 3 = s.monitors[(4 : Valve)].window ∧ s.monitors[(4 : Valve)].accepted = false ∧ 3 ≠ 0 ∧
        s.ctl.state = .running ∧ setupInRange s.store.setup = true ∧ s.store.setup.guard.cfLimit = 4 ∧
        isNoVoltage s.store.setup.levels.nL ⟨5, 3, 0, []⟩ s.monitors[(4 : Valve)].levels = true ∧
        s.monitors[(4 : Valve)].armed = x.2.1 ∧ s.store.setup.role = x.1 := by
  decide +kernel

theorem witness_ReappearRefires :
    let train := fun n s => inState .running (withGen 4 ⟨.train, some 1001001, none, n, none⟩ s)
    let held := inState .bypass (withGen 4 ⟨.hold, none, some 1000500, 0, none⟩ rest)
    let masked := { rest with prot := { rest.prot with masks := { noSources with refireLimit := true } } }
    (betweenFrames (.ret 4) rest = true ∧ 4 ≠ valveNumber 4 ∧ rest.gens[(4 : Valve)].mode = .off) ∧
    (∀ x ∈ [(1, rest), (3, rest), (2, rest), (2, masked), (2, acting .refireLimit rest)], let s := train x.1 x.2
      5 = valveNumber 4 ∧ betweenFrames (.ret 4) s = true ∧ Quiet s ∧ rests s = true ∧
        s.gens[(4 : Valve)].mode = .train ∧ s.gens[(4 : Valve)].trainEnd = some 1001001) ∧
    ((train 1 rest).gens[(4 : Valve)].refires + 1 ≠ rest.store.setup.angles.refireLimit ∧
      (train 2 rest).gens[(4 : Valve)].refires + 1 = rest.store.setup.angles.refireLimit) ∧
    (isInAction masked .refireLimit = false ∧ hasSource masked.prot.masks .refireLimit = true) ∧
    (isInAction (acting .refireLimit rest) .refireLimit = true ∧ isPending (acting .refireLimit rest) .refireLimit = false) ∧
    (rest.prot.inAction = [] ∧ hasSource rest.prot.masks .refireLimit = false ∧
      hasSource rest.prot.repeats .refireLimit = false ∧ rest.port.outgoing.length ≤ 30) ∧
    (Quiet held ∧ held.gens[(4 : Valve)].mode = .hold) := by
  unfold Quiet Calm Unmoved
  decide +kernel

/-! ## Witnesses: firings and timers -/

theorem witness_FiringFiresTheFirstEntry :
    ∀ x ∈ [(ConvState.running, OrderKind.normal, TestMode.fixed, 2), (.testing, .test, .fixed, 2), (.testing, .test, .continuous, 1),
        (.testing, .test, .fixed, 1)],
      ∀ m ∈ [(0, false), (7, true), (65535, false)],
        let l := listing x.1 x.2.1 x.2.2.1 x.2.2.2
        let s := { l with monitors := l.monitors.set 0 { l.monitors[(0 : Valve)] with window := m.1, accepted := m.2, missingRun := 2 } }
        s.cal.orders = order 0 x.2.1 1000500 :: [order 6 x.2.1 1000700] ∧ canReach 1000500 s = true ∧ Quiet s ∧
          TestCountInv s ∧ (order 0 x.2.1 1000500).valve = yValve s.store 0 ∧ s.port.outgoing.length < 32 ∧
          1 ≤ s.ctl.programmed := by
  unfold Quiet Calm Unmoved TestCountInv
  decide +kernel

theorem witness_FiringStartsTrainOrHold :
    ∀ kind ∈ [OrderKind.normal, .bypass],
      let s := listing .running kind .fixed 2
      s.cal.orders = order 0 kind 1000500 :: [order 6 kind 1000700] ∧ canReach 1000500 s = true ∧ Calm s ∧ TestCountInv s ∧
        ¬((order 0 kind 1000500).kind = .test ∧ (order 0 kind 1000500).valve = yValve s.store 0) := by
  unfold Calm TestCountInv
  decide +kernel

theorem witness_RepeatAndTrainEndExpire :
    let a := withGen 4 ⟨.train, some 1001500, some 1000500, 0, none⟩ rest
    let b := withGen 4 ⟨.hold, none, some 1000500, 0, none⟩ rest
    let c := withGen 4 ⟨.train, some 1000500, none, 0, none⟩ rest
    (canReach 1000500 a = true ∧ a.gens[(4 : Valve)].repeatAt = some 1000500 ∧ a.gens[(4 : Valve)].mode = .train ∧
      a.gens[(4 : Valve)].trainEnd = some 1001500) ∧
    (canReach 1000500 b = true ∧ b.gens[(4 : Valve)].repeatAt = some 1000500 ∧ b.gens[(4 : Valve)].mode = .hold) ∧
    (canReach 1000500 c = true ∧ c.gens[(4 : Valve)].trainEnd = some 1000500) := by
  decide +kernel

theorem witness_ResolverTimersExpire :
    let cf := fun mark => ({ acting .commutationFail rest with
      prot := { (acting .commutationFail rest).prot with
        cfTimer := some 1000500, repeats := { noSources with commutationFail := mark } } } : State)
    let w := { rest with prot := { rest.prot with cfRun := 3, runWindow := some 1000500 } }
    (∀ mark ∈ [false, true], Calm (cf mark) ∧ Placed (cf mark) ∧ setupInRange (cf mark).store.setup = true ∧
      canReach 1000500 (cf mark) = true ∧ actionTimer (cf mark).prot .commutationFail = some 1000500 ∧
      isInAction (cf mark) .commutationFail = true ∧ hasSource (cf mark).prot.repeats .commutationFail = mark) ∧
    (Calm w ∧ Placed w ∧ setupInRange w.store.setup = true ∧ canReach 1000500 w = true ∧ w.prot.runWindow = some 1000500) := by
  intro cf w
  have hp : ∀ mark ∈ [false, true], placed (cf mark) = true := by decide +kernel
  have h : ∀ mark ∈ [false, true], Calm (cf mark) ∧ setupInRange (cf mark).store.setup = true ∧
      canReach 1000500 (cf mark) = true ∧ actionTimer (cf mark).prot .commutationFail = some 1000500 ∧
      isInAction (cf mark) .commutationFail = true ∧ hasSource (cf mark).prot.repeats .commutationFail = mark := by
    unfold Calm
    decide +kernel
  refine ⟨fun mark hm => ⟨(h mark hm).1, placed_of_check (hp mark hm), (h mark hm).2⟩, ?_⟩
  unfold Calm
  exact ⟨by decide +kernel, placed_of_check (by decide +kernel), by decide +kernel⟩

theorem witness_PrecheckAndRetardExpire :
    let filled := fun n s => ({ s with port := { s.port with outgoing := List.replicate n (.reply .block 7 .done .empty) } } : State)
    let a := fun ready => inState .precheck { rest with ctl := { rest.ctl with precheckTimer := some 1000500, ready := ready } }
    let b := inState .retard { rest with ctl := { rest.ctl with retardTimer := some 1000500 } }
    (∀ n ∈ [0, 31, 32], canReach 1000500 (filled n b) = true ∧ (filled n b).ctl.retardTimer = some 1000500 ∧
      (filled n b).ctl.state = .retard) ∧
    (∀ v ∈ [(0 : Valve), 11], ∀ n ∈ [0, 31, 32],
      let s := filled n (a (Vector.ofFn fun w : Valve => decide (w < v)))
      canReach 1000500 s = true ∧ s.ctl.precheckTimer = some 1000500 ∧ s.ctl.state = .precheck ∧ s.ctl.ready[v] = false ∧
        ∀ w : Valve, w < v → s.ctl.ready[w] = true) := by
  decide +kernel

theorem witness_LinkAndOrderTimersExpire :
    let s := fun retard => ({ rest with
      port := { rest.port with linkTimer := some 1000500, orderTimer := some 1000500 }
      store := { rest.store with setup := { rest.store.setup with
        guard := { rest.store.setup.guard with retardTime := retard } } } } : State)
    (canReach 1000500 (s 50) = true ∧ (s 50).port.linkTimer = some 1000500 ∧ Unmoved (s 50).ctl.state) ∧
    (∀ r ∈ [Role.inverter, .rectifier], ∀ n ∈ [0, 1],
      ∀ c ∈ [ConvState.precheck, .running, .bypass, .retard, .testing, .testHeld],
        let u := inRole r (inState c (s n))
        canReach 1000500 u = true ∧ u.port.linkTimer = some 1000500 ∧ isGuarded u.ctl.state = true ∧ Calm u ∧
          u.prot.inAction = [] ∧ hasSource u.prot.masks .linkLost = false ∧ u.port.orderTimer = some 1000500 ∧ Quiet u) := by
  unfold Quiet Calm Unmoved
  decide +kernel

/-! ## Witnesses: invariants -/

/-- A station in RUNNING with orders in the list, a train, and ORDER_STALE and COMMUTATION_FAIL in action. -/
def busy : State :=
  withGen 4 ⟨.train, some 1040000, some 1000500, 1, none⟩ { listing .running .normal .fixed 1 with
    prot := { rest.prot with inAction := [⟨.orderStale, 5⟩, ⟨.commutationFail, 9⟩], cfTimer := some 1800000, cfRun := 1 }
    port := { rest.port with orderTimer := none } }

theorem witness_StepKeepsTheAccount : AccountInv busy := by
  unfold AccountInv
  decide +kernel

theorem witness_StepKeepsTheCalendar : CalendarInv busy ∧ SortedInv busy := by
  unfold CalendarInv SortedInv
  decide +kernel

theorem witness_StepKeepsDarkAndTestCount :
    (CalendarInv busy ∧ DarkInv busy ∧ TestCountInv busy) ∧
    (CalendarInv (listing .testing .test .fixed 1) ∧ DarkInv (listing .testing .test .fixed 1) ∧
      TestCountInv (listing .testing .test .fixed 1)) := by
  unfold CalendarInv DarkInv TestCountInv
  decide +kernel

theorem witness_StepKeepsThePhase : PhaseInv busy := by
  unfold PhaseInv
  decide +kernel

theorem witness_StepKeepsTheQueues : QueueInv busy := by
  unfold QueueInv
  decide +kernel

theorem witness_StepKeepsTheStore : StoreInv busy := by
  unfold StoreInv
  decide +kernel

theorem witness_StepSettlesTheResolver : ResolverInv busy :=
  ⟨settled_of_rests (by decide +kernel), placed_of_check (by decide +kernel), by unfold Rising; decide +kernel,
    by unfold TripFollows; decide +kernel⟩

end Sys2Proof.Tests
end

/-! PROOF. A read-only request answered in a settled state, and HISTORY_READ (R57, R164). -/

namespace Sys2Proof.Machine

variable {s : State}

/-- The resolver reads neither the request queue nor the outgoing list, so a reply leaves it at rest (R101, R102). -/
theorem Settled.replied (h : Settled s) (rec : OutRecord) : Settled (replied rec s) :=
  h.congr rfl rfl rfl rfl rfl rfl rfl rfl

/-- A read-only request whose own rule only replies is answered so and changes nothing else: its taking leaves an open
sequence alone (R143), and the close of its event grants nothing. -/
theorem answers_of_readOnly {c : Instr} {k : RequestKind} {f : Nat → Request → State → State} {tag : Nat} {r : Request}
    {rec : OutRecord} (hc : exec c s = .next (serve k f s)) (hset : Settled s) (htake : TakesRequest s tag r)
    (hk : requestKind r = k) (hro : isReadOnly k = true) (hf : f tag r (popped s) = replied rec s) :
    Answers c s rec (popped s) := by
  have hkeeps : takenEffects k (popped s) = popped s :=
    takenEffects_keeps (by simp [hro]) (by rintro rfl; cases hro) (popped s)
  have hserve : serve k f s = replied rec s := by
    rw [serve_taken htake k hk, hkeeps, hf, settle_of_settled _ (hset.replied rec)]
  exact answers_of_replied (hc.trans (congrArg _ hserve)) rfl

/-- An offset past the last place of the ring is refused with RANGE (R57). -/
theorem takeHistoryRead_popped_of_gt {offset : Nat} (h : 63 < offset) (tag : Nat) :
    takeHistoryRead tag offset (popped s) = replied (.reply .historyRead tag .range .empty) s := by
  rw [takeHistoryRead, if_pos h]
  exact appendRecord_popped _ s

/-- An offset within the ring is answered with the count and the records from the offset onward (R57). -/
theorem takeHistoryRead_popped_of_le {offset : Nat} (h : offset ≤ 63) (tag : Nat) :
    takeHistoryRead tag offset (popped s) = replied (.reply .historyRead tag .done
      (.history s.cal.ring.length ((s.cal.ring.drop offset).take 8))) s := by
  rw [takeHistoryRead, if_neg (Nat.not_lt.mpr h)]
  exact appendRecord_popped _ s

/-- HISTORY_READ answers with the record that its own rule replies with. -/
theorem answers_historyRead {tag offset : Nat} {rec : OutRecord} (hset : Settled s)
    (htake : TakesRequest s tag (.historyRead offset)) (hf : takeHistoryRead tag offset (popped s) = replied rec s) :
    Answers .historyRead s rec (popped s) :=
  answers_of_readOnly rfl hset htake rfl rfl hf

/-- Settles O29, by the two branches of the request's own rule in a state where the close of the event grants nothing. -/
theorem historyReadShowsTheRing : Obligations.HistoryReadShowsTheRing := by
  intro s tag offset hset htake
  constructor
  · intro hgt
    exact answers_historyRead hset htake (takeHistoryRead_popped_of_gt hgt tag)
  · intro hle
    exact answers_historyRead hset htake (takeHistoryRead_popped_of_le hle tag)

end Sys2Proof.Machine


/-! PROOF. PROT_STATUS (R112, R143). -/

namespace Sys2Proof.Machine

variable {s : State}

/-- The report reads the resolver and the setup values, so the request's own taking from the queue does not show in it (R112). -/
@[simp] theorem protectionReport_popped : protectionReport (popped s) = protectionReport s := rfl

/-- PROT_STATUS replies in every converter state with the report as it stood before the request left the queue (R112). -/
theorem takeProtStatus_popped (tag : Nat) :
    takeProtStatus tag (popped s) =
      replied (.reply .protStatus tag .done (.protection (protectionReport s))) s := by
  rw [takeProtStatus, protectionReport_popped]
  exact appendRecord_popped _ s

/-- Settles O23: the request's own rule only replies, and as a read-only request it leaves an open setup sequence alone (R143),
so in a settled state nothing else moves. -/
theorem protStatusShowsTheResolver : Obligations.ProtStatusShowsTheResolver := by
  intro s tag hset htake
  exact answers_of_readOnly rfl hset htake rfl rfl (takeProtStatus_popped tag)

end Sys2Proof.Machine


/-! PROOF. TABLE_READ (R149, R143). -/

namespace Sys2Proof.Machine

variable {s : State}

/-- A row number of the table selects that row, with the table's generation, count and completeness (R149). -/
theorem tableContent_row {n : Nat} (h : n < 33) (st : Store) :
    tableContent (some (.row n)) st =
      some (.tableRow n st.table[n] st.tableGen (rowsWritten st) (tableComplete st)) := by
  simp [tableContent, h]

/-- A selector that is none of the three, or a row number above 32, selects nothing (R149). -/
theorem tableContent_eq_none {sel : Option Selector} (h : sel = none ∨ ∃ n, sel = some (.row n) ∧ 32 < n)
    (st : Store) : tableContent sel st = none := by
  obtain rfl | ⟨n, rfl, hn⟩ := h
  · rfl
  · have hout : st.table[n]? = none := Vector.getElem?_eq_none (by omega)
    simp only [tableContent, hout]

/-- A selection is answered with its content as it stood before the request left the queue (R149). -/
theorem takeTableRead_popped_of_some {sel : Option Selector} {c : Content} (h : tableContent sel s.store = some c)
    (tag : Nat) : takeTableRead tag sel (popped s) = replied (.reply .tableRead tag .done c) s := by
  have hc : tableContent sel (popped s).store = some c := h
  simp only [takeTableRead, hc]
  exact appendRecord_popped _ s

/-- A selection of nothing is refused with RANGE (R149). -/
theorem takeTableRead_popped_of_none {sel : Option Selector} (h : tableContent sel s.store = none) (tag : Nat) :
    takeTableRead tag sel (popped s) = replied (.reply .tableRead tag .range .empty) s := by
  have hc : tableContent sel (popped s).store = none := h
  simp only [takeTableRead, hc]
  exact appendRecord_popped _ s

/-- TABLE_READ answers a selection with its content and moves nothing: as a read-only request it leaves an open setup sequence
alone, so the step it shows is the one that stands (R143). -/
theorem answers_tableRead_done {tag : Nat} {sel : Option Selector} {c : Content} (hset : Settled s)
    (htake : TakesRequest s tag (.tableRead sel)) (h : tableContent sel s.store = some c) :
    Answers .tableRead s (.reply .tableRead tag .done c) (popped s) :=
  answers_of_readOnly rfl hset htake rfl rfl (takeTableRead_popped_of_some h tag)

/-- Settles O11, by what each selector selects from the store. -/
theorem tableReadShowsTheStore : Obligations.TableReadShowsTheStore := by
  intro s tag hset
  refine ⟨?row, ?map, ?setup, ?range⟩
  case row =>
    intro n hn htake
    exact answers_tableRead_done hset htake (tableContent_row hn s.store)
  case map =>
    intro htake
    exact answers_tableRead_done hset htake rfl
  case setup =>
    intro htake
    exact answers_tableRead_done hset htake rfl
  case range =>
    intro sel htake hsel
    exact answers_of_readOnly rfl hset htake rfl rfl
      (takeTableRead_popped_of_none (tableContent_eq_none hsel s.store) tag)

end Sys2Proof.Machine


/-! PROOF. STATUS (R170, R143). -/

namespace Sys2Proof.Machine

variable {s : State}

/-- The resolver reads neither the test-done nor the notice-lost flag, so clearing them leaves it at rest (R101, R102). -/
theorem Settled.clearShown (h : Settled s) : Settled (clearShown s) :=
  h.congr rfl rfl rfl rfl rfl rfl rfl rfl

/-- The report reads neither the request queue nor the outgoing list, so the request's own taking does not show in it (R170). -/
@[simp] theorem statusReport_popped : statusReport (popped s) = statusReport s := rfl

/-- STATUS replies with the report as it stood before the request left the queue, and clears the flags only after their values
stand in the reply (R170). -/
theorem takeStatus_popped (tag : Nat) :
    takeStatus tag (popped s) = clearShown (replied (.reply .status tag .done (.status (statusReport s))) s) := by
  rw [takeStatus, statusReport_popped]
  exact congrArg clearShown (appendRecord_popped _ s)

/-- A read-only request leaves an open sequence alone (R143), and the close of its event grants nothing where its own rule leaves
the resolver at rest: the event is that rule alone. -/
theorem serve_readOnly {k : RequestKind} {f : Nat → Request → State → State} {tag : Nat} {r : Request}
    (htake : TakesRequest s tag r) (hk : requestKind r = k) (hro : isReadOnly k = true)
    (hrest : Settled (f tag r (popped s))) : serve k f s = f tag r (popped s) := by
  have hkeeps : takenEffects k (popped s) = popped s :=
    takenEffects_keeps (by simp [hro]) (by rintro rfl; cases hro) (popped s)
  rw [serve_taken htake k hk, hkeeps, settle_of_settled _ hrest]

/-- STATUS taken in a settled state: the reply appended, then the two flags cleared (R170, R133). -/
theorem exec_status_taken {tag : Nat} (hset : Settled s) (htake : TakesRequest s tag .status) :
    exec .status s = .next (clearShown (replied (.reply .status tag .done (.status (statusReport s))) s)) := by
  have hrest : Settled (takeStatus tag (popped s)) := by
    rw [takeStatus_popped]
    exact (hset.replied _).clearShown
  have hserve : serve .status (fun tag _ s => takeStatus tag s) s = takeStatus tag (popped s) :=
    serve_readOnly htake rfl rfl hrest
  rw [← takeStatus_popped, ← hserve]
  rfl

/-- Settles O28: the state after the request's own rule is settled, as clearing the flags moves no condition, so the event ends
there; the report reads each item from the state before. -/
theorem statusShowsAndClears : Obligations.StatusShowsAndClears := by
  intro s tag hset htake
  exact ⟨_, exec_status_taken hset htake, rfl, rfl⟩

end Sys2Proof.Machine


/-! PROOF. What a step can do, said once: the requests' own rules under one name, the events of the part, and the moves of which
every step is made. -/

namespace Sys2Proof.Machine

variable {s t : State}

/-! ### The requests' own rules -/

/-- The rule of a taken request, by its constructor: what the request's row does between the taking and the close of its
event (`exec_rowOfKind` ties it to the rows). -/
def takeRequest (tag : Nat) (r : Request) (s : State) : State :=
  match r with
  | .setupBegin => takeSetupBegin tag s
  | .setupPhase v => takeSetupPhase tag v s
  | .setupAngles role v => takeSetupAngles tag role v s
  | .setupGuard v nesting => takeSetupGuard tag v nesting s
  | .setupLevels v => takeSetupLevels tag v s
  | .setupEnd => takeSetupEnd tag s
  | .tableWrite row entries => takeTableWrite tag row entries s
  | .tableRead sel => takeTableRead tag sel s
  | .mapWrite y d => takeMapWrite tag y d s
  | .mapLock => takeMapLock tag s
  | .deblock tg mg => takeDeblock tag tg mg s
  | .block => takeBlock tag s
  | .bypass => takeBypass tag s
  | .testStart a c tg mg => takeTestStart tag a c tg mg s
  | .testSuspend => takeTestSuspend tag s
  | .testResume => takeTestResume tag s
  | .angleOrder a => takeAngleOrder tag a s
  | .phaseRestart => takePhaseRestart tag s
  | .restart => takeRestart tag s
  | .protMask l => takeProtMask tag l s
  | .protEnd n => takeProtEnd tag n s
  | .protEndTop => takeProtEndTop tag s
  | .protStatus => takeProtStatus tag s
  | .levelLatch => takeLevelLatch tag s
  | .levelRead v f => takeLevelRead tag v f s
  | .levelFind v l states => takeLevelFind tag v l states s
  | .levelRelease => takeLevelRelease tag s
  | .levelClear v l => takeLevelClear tag v l s
  | .levelExclude v l => takeLevelExclude tag v l s
  | .status => takeStatus tag s
  | .historyRead o => takeHistoryRead tag o s

/-- The head that the port takes is a request of the row's kind or a bad length of it, and 16 records or fewer stand in the
outgoing list (R164). -/
theorem takeHead_some {k : RequestKind} {tag : Nat} {body : Option Request} (h : takeHead k s = some (tag, body, t)) :
    t = popped s ∧ s.port.outgoing.length ≤ 16 ∧ ∀ r, body = some r → requestKind r = k := by
  unfold takeHead at h
  cases hq : s.port.requests with
  | nil => simp [hq] at h
  | cons f rest =>
    have hpop : ({ s with port := { s.port with requests := rest } } : State) = popped s := by simp [popped, hq]
    by_cases hr : requestReady s = true
    · have hlen : s.port.outgoing.length ≤ 16 := by
        simp only [requestReady, Bool.and_eq_true, decide_eq_true_eq] at hr
        exact hr.2
      simp only [hq, hr, if_true, hpop] at h
      split at h
      · split at h
        · rename_i hk
          cases h
          exact ⟨rfl, hlen, fun r hr => by cases hr; exact hk⟩
        · cases h
      · split at h
        · cases h
          exact ⟨rfl, hlen, fun r hr => by cases hr⟩
        · cases h
      · cases h
    · simp [hq, hr] at h

/-- A row's rule is only run on the requests of its kind. -/
theorem serve_congr {k : RequestKind} {f g : Nat → Request → State → State}
    (h : ∀ tag r s, requestKind r = k → f tag r s = g tag r s) (s : State) : serve k f s = serve k g s := by
  unfold serve
  split
  · rename_i tag body t heq
    cases body with
    | none => rfl
    | some r => exact congrArg settle (h tag r _ ((takeHead_some heq).2.2 r rfl))
  · rfl

/-- Every request row serves its kind by the request's own rule. -/
theorem exec_rowOfKind (k : RequestKind) (s : State) : exec (rowOfKind k) s = .next (serve k takeRequest s) := by
  cases k
  all_goals
    refine congrArg Host.Outcome.next (serve_congr ?_ s)
    intro tag r s hk
    cases r <;> cases hk
    rfl

/-- A request that the port can take is taken whole by its row, and its event closed (R164). -/
theorem exec_taken {tag : Nat} {r : Request} (h : TakesRequest s tag r) :
    exec (rowOfKind (requestKind r)) s =
      .next (settle (takeRequest tag r (takenEffects (requestKind r) (popped s)))) := by
  rw [exec_rowOfKind, serve_taken h _ rfl]

/-! ### Events -/

/-- The events of the part that the resolver closes. -/
inductive Event where
  | request (tag : Nat) (r : Request)
  | badLength (tag : Nat) (k : RequestKind)
  | unknownKind (tag code : Nat)
  | controlFrame (f : ControlFrame)
  | crossing (kind lag : Nat)
  | sample (seq : Nat) (id : Int) (uac : Nat)
  | returnRecord (line : Valve) (r : ReturnRecord)
  | reappear (line : Valve)
  | armedExpiry
  | firing
  | cfpHoldExpiry
  | actionTimerExpiry (src : Source)
  | runWindowExpiry
  | precheckTimerExpiry
  | retardTimerExpiry
  | staleTimerExpiry
  | linkTimerExpiry
  | orderTimerExpiry

/-- What an event does before its close. -/
def Event.body (e : Event) (s : State) : State :=
  match e with
  | .request tag r => takeRequest tag r (takenEffects (requestKind r) (popped s))
  | .badLength tag k => reply k tag .range .empty (takenEffects k (popped s))
  | .unknownKind tag code => takeUnknown tag code s
  | .controlFrame f => enqueue f (touchLink s)
  | .crossing kind lag => endTestRun (takeCrossing kind lag s)
  | .sample seq id uac => acceptSample seq id uac s
  | .returnRecord line r => processReturn line r s
  | .reappear line => refireValve line s
  | .armedExpiry => endTestRun (takeArmedExpiry s)
  | .firing => endTestRun (fireFirst s)
  | .cfpHoldExpiry => endCfpHold s
  | .actionTimerExpiry src => endSource src .timed s
  | .runWindowExpiry => endRunWindow s
  | .precheckTimerExpiry => precheckTimeout s
  | .retardTimerExpiry => retardTimeout s
  | .staleTimerExpiry => staleOnset s
  | .linkTimerExpiry => silenceLink s
  | .orderTimerExpiry => expireOrder s

/-- What the part checks before it takes an event, as far as the invariants lean on it: room for a reply (R164), an accepted
record (R79), a generator that is not OFF (R66). -/
def Event.Ready (e : Event) (s : State) : Prop :=
  match e with
  | .request _ _ => s.port.outgoing.length ≤ 16
  | .badLength _ _ => s.port.outgoing.length ≤ 16
  | .unknownKind _ _ => s.port.outgoing.length ≤ 16
  | .returnRecord line r => acceptsReturn line r s = true
  | .reappear line => s.gens[line].mode ≠ .off
  | .actionTimerExpiry src => src = .commutationFail ∨ src = .refireLimit
  | _ => True

/-! ### Moves -/

/-- What a step is made of: events closed by the resolver, the passage of station time, the receivers' reading, and the few rows
whose event the resolver does not close. -/
inductive Moves : State → State → Prop where
  | refl (s : State) : Moves s s
  | trans {a b c : State} : Moves a b → Moves b c → Moves a c
  | event (e : Event) (s : State) : e.Ready s → Moves s (settle (e.body s))
  | time (n : Nat) (s : State) : Moves s { s with now := n }
  | pending (q : List Instr) (s : State) : Moves s { s with pending := q }
  | receivers (rs : Receivers) (s : State) : Moves s { s with receivers := rs }
  | sent (s : State) : Moves s (dropSent s)
  | repeatPulse (v : Valve) (s : State) (e : Nat) : s.gens[v].repeatAt = some e → Moves s (repeatValve v e s)
  | trainEnd (v : Valve) (s : State) : Moves s (setGenerator v generatorOff s)
  | powerOn (s : State) : Moves s { State.reset with pending := s.pending }

/-- An expiry moves as its effect moves at the expired time. -/
theorem Moves.onExpiry {f : State → State} (e : Option Nat)
    (h : ∀ n, e = some n → Moves (atTime n s) (f (atTime n s))) : Moves s (onExpiry e f s) := by
  unfold Machine.onExpiry
  split
  · split
    · exact (Moves.time _ s).trans (h _ rfl)
    · exact .refl s
  · exact .refl s

/-- An expiry whose event the resolver closes. -/
theorem Moves.onExpiry_event (e : Option Nat) (ev : Event) (f : State → State) (hf : ∀ s, f s = settle (ev.body s))
    (h : e ≠ none → ∀ n, ev.Ready (atTime n s)) : Moves s (Machine.onExpiry e f s) :=
  Moves.onExpiry e fun n hn => hf (atTime n s) ▸ Moves.event ev _ (h (by simp [hn]) n)

/-- A request row makes the event of the request at the queue's head, or nothing (R164, log 4). -/
theorem Moves.serve (k : RequestKind) (s : State) : Moves s (serve k takeRequest s) := by
  unfold Machine.serve
  split
  · rename_i tag body t heq
    obtain ⟨rfl, hlen, hk⟩ := takeHead_some heq
    cases body with
    | some r =>
      have hr := hk r rfl
      subst hr
      exact Moves.event (.request tag r) s hlen
    | none => exact Moves.event (.badLength tag k) s hlen
  · exact .refl s

/-- A frame taken in its own event makes that event, or nothing (R160, R152, R79, R162). -/
theorem Moves.takeOutcome (o : FrameOutcome) (s : State) : Moves s (takeOutcome o s) := by
  unfold Machine.takeOutcome
  split
  · exact .refl s
  · exact .event (.controlFrame _) s trivial
  · rename_i seq id uac
    unfold takeSampleFrame
    split
    · exact .refl s
    · exact .event (.sample seq id uac) s trivial
  · exact .event (.crossing _ _) s trivial
  · rename_i line r
    unfold takeReturnFrame
    split
    · rename_i h
      exact .event (.returnRecord line r) s h
    · exact .refl s
  · rename_i line valve
    unfold takeReappearFrame
    split
    · rename_i h
      exact .event (.reappear line) s h.2
    · exact .refl s
  · exact .refl s

/-- Bytes make the events of the frames that they end, in order (R160). -/
theorem Moves.takeBytes (line : Line) (bytes : List Byte) (s : State) : Moves s (takeBytes line bytes s) := by
  have fold : ∀ (l : List FrameOutcome) (u : State), Moves u (l.foldl (fun s o => Machine.takeOutcome o s) u) := by
    intro l
    induction l with
    | nil => exact fun u => .refl u
    | cons o os ih => exact fun u => (Moves.takeOutcome o u).trans (ih _)
  exact (Moves.receivers _ s).trans (fold _ _)

/-- A good frame makes its own event between frames, and is otherwise read on (R160, log 9). -/
theorem Moves.arrive (line : Line) (bytes : List Byte) (o : FrameOutcome) (s : State) :
    Moves s (arrive line bytes (Machine.takeOutcome o) s) := by
  unfold Machine.arrive
  split
  · exact (Moves.receivers _ s).trans (Moves.takeOutcome o _)
  · exact Moves.takeBytes line bytes s

/-- A command makes moves. -/
theorem moves_of_exec {c : Instr} (h : exec c s = .next t) : Moves s t := by
  have row : ∀ k, exec (rowOfKind k) s = .next t → Moves s t := by
    intro k hk
    rw [exec_rowOfKind] at hk
    cases hk
    exact Moves.serve k s
  cases c with
  | powerOn => cases h; exact .powerOn s
  | controlFrame f => cases h; exact Moves.arrive _ _ (.control f) s
  | byteGapTimeout line => cases h; exact Moves.onExpiry _ fun n _ => .receivers _ _
  | recordSent n =>
    cases h
    split
    · exact Moves.onExpiry _ fun n _ => .sent _
    · exact .refl s
  | unknownRequest =>
    cases h
    split
    · rename_i tag code heq
      refine .event (.unknownKind tag code) s ?_
      unfold unknownHead at heq
      split at heq
      · split at heq
        · rename_i hr
          simp only [requestReady, Bool.and_eq_true, decide_eq_true_eq] at hr
          exact hr.2
        · cases heq
      · cases heq
    · exact .refl s
  | setupBegin => exact row .setupBegin h
  | setupPhase => exact row .setupPhase h
  | setupAngles => exact row .setupAngles h
  | setupGuard => exact row .setupGuard h
  | setupLevels => exact row .setupLevels h
  | setupEnd => exact row .setupEnd h
  | tableWrite => exact row .tableWrite h
  | tableRead => exact row .tableRead h
  | mapWrite => exact row .mapWrite h
  | mapLock => exact row .mapLock h
  | deblock => exact row .deblock h
  | block => exact row .block h
  | bypass => exact row .bypass h
  | testStart => exact row .testStart h
  | testSuspend => exact row .testSuspend h
  | testResume => exact row .testResume h
  | angleOrder => exact row .angleOrder h
  | phaseRestart => exact row .phaseRestart h
  | restart => exact row .restart h
  | protMask => exact row .protMask h
  | protEnd => exact row .protEnd h
  | protEndTop => exact row .protEndTop h
  | protStatus => exact row .protStatus h
  | levelLatch => exact row .levelLatch h
  | levelRead => exact row .levelRead h
  | levelFind => exact row .levelFind h
  | levelRelease => exact row .levelRelease h
  | levelClear => exact row .levelClear h
  | levelExclude => exact row .levelExclude h
  | status => exact row .status h
  | historyRead => exact row .historyRead h
  | crossing kind lag => cases h; exact Moves.arrive _ _ (.record (.crossing kind lag)) s
  | armedExpiry => cases h; exact Moves.onExpiry_event _ .armedExpiry _ (fun _ => rfl) fun _ _ => trivial
  | sample seq id uac => cases h; exact Moves.arrive _ _ (.record (.sample seq id uac)) s
  | returnRecord line r => cases h; exact Moves.arrive _ _ (.record (.returnRecord line r)) s
  | reappear line valve => cases h; exact Moves.arrive _ _ (.record (.reappear line valve)) s
  | firing => cases h; exact Moves.onExpiry_event _ .firing _ (fun _ => rfl) fun _ _ => trivial
  | repeatExpiry v =>
    cases h
    refine Moves.onExpiry _ fun n hn => ?_
    rw [hn]
    exact .repeatPulse v _ n hn
  | trainEnd v => cases h; exact Moves.onExpiry _ fun n _ => .trainEnd v _
  | cfpHoldExpiry => cases h; exact Moves.onExpiry_event _ .cfpHoldExpiry _ (fun _ => rfl) fun _ _ => trivial
  | actionTimerExpiry src =>
    cases h
    refine Moves.onExpiry_event _ (.actionTimerExpiry src) _ (fun _ => rfl) fun hne _ => ?_
    cases src <;> simp_all [actionTimer, Event.Ready]
  | runWindowExpiry => cases h; exact Moves.onExpiry_event _ .runWindowExpiry _ (fun _ => rfl) fun _ _ => trivial
  | precheckTimerExpiry => cases h; exact Moves.onExpiry_event _ .precheckTimerExpiry _ (fun _ => rfl) fun _ _ => trivial
  | retardTimerExpiry => cases h; exact Moves.onExpiry_event _ .retardTimerExpiry _ (fun _ => rfl) fun _ _ => trivial
  | staleTimerExpiry => cases h; exact Moves.onExpiry_event _ .staleTimerExpiry _ (fun _ => rfl) fun _ _ => trivial
  | linkTimerExpiry => cases h; exact Moves.onExpiry_event _ .linkTimerExpiry _ (fun _ => rfl) fun _ _ => trivial
  | orderTimerExpiry => cases h; exact Moves.onExpiry_event _ .orderTimerExpiry _ (fun _ => rfl) fun _ _ => trivial
  | discardedFrame line bytes => cases h; exact Moves.takeBytes line bytes s

/-- A step makes moves. -/
theorem moves_of_step (h : step s = .next t) : Moves s t := by
  unfold step at h
  split at h
  · exact (Moves.pending _ s).trans (moves_of_exec h)
  · unfold idle at h
    split at h
    · exact moves_of_exec h
    · cases h
      exact .time _ s

/-- The induction over the moves, once: what power-on makes true, and what every move keeps, every step keeps. -/
structure Kept (I : State → Prop) : Prop where
  powerOn : ∀ q, I { State.reset with pending := q }
  event : ∀ (e : Event) (s : State), e.Ready s → I s → I (settle (e.body s))
  time : ∀ (n : Nat) (s : State), I s → I { s with now := n }
  pending : ∀ (q : List Instr) (s : State), I s → I { s with pending := q }
  receivers : ∀ (rs : Receivers) (s : State), I s → I { s with receivers := rs }
  sent : ∀ s, I s → I (dropSent s)
  repeatPulse : ∀ (v : Valve) (s : State) (e : Nat), s.gens[v].repeatAt = some e → I s → I (repeatValve v e s)
  trainEnd : ∀ (v : Valve) (s : State), I s → I (setGenerator v generatorOff s)

theorem Kept.moves {I : State → Prop} (k : Kept I) (h : Moves s t) : I s → I t := by
  induction h with
  | refl s => exact id
  | trans _ _ h1 h2 => exact fun hs => h2 (h1 hs)
  | event e s hr => exact k.event e s hr
  | time n s => exact k.time n s
  | pending q s => exact k.pending q s
  | receivers rs s => exact k.receivers rs s
  | sent s => exact k.sent s
  | repeatPulse v s e he => exact k.repeatPulse v s e he
  | trainEnd v s => exact k.trainEnd v s
  | powerOn s => exact fun _ => k.powerOn _

theorem Kept.step {I : State → Prop} (k : Kept I) (hs : I s) (h : step s = .next t) : I t :=
  k.moves (moves_of_step h) hs

end Sys2Proof.Machine


/-! PROOF. What the resolver's operations, the changes of the converter state and the requests' rules leave, but for the resolver
and what the port has yet to send. -/

namespace Sys2Proof.Machine

variable {s t : State}

/-! ### What a frame of the resolver leaves -/

theorem SameButResolver.now (h : SameButResolver s t) : t.now = s.now := by
  obtain ⟨h, -⟩ := sameButResolver_iff.mp h
  exact h

theorem SameButResolver.pru (h : SameButResolver s t) : t.pru = s.pru := by
  obtain ⟨-, h, -⟩ := sameButResolver_iff.mp h
  exact h

theorem SameButResolver.acu (h : SameButResolver s t) : t.acu = s.acu := by
  obtain ⟨-, -, h, -⟩ := sameButResolver_iff.mp h
  exact h

theorem SameButResolver.cal (h : SameButResolver s t) : t.cal = s.cal := by
  obtain ⟨-, -, -, h, -⟩ := sameButResolver_iff.mp h
  exact h

theorem SameButResolver.gens (h : SameButResolver s t) : t.gens = s.gens := by
  obtain ⟨-, -, -, -, h, -⟩ := sameButResolver_iff.mp h
  exact h

theorem SameButResolver.emitters (h : SameButResolver s t) : t.emitters = s.emitters := by
  obtain ⟨-, -, -, -, -, h, -⟩ := sameButResolver_iff.mp h
  exact h

theorem SameButResolver.monitors (h : SameButResolver s t) : t.monitors = s.monitors := by
  obtain ⟨-, -, -, -, -, -, h, -⟩ := sameButResolver_iff.mp h
  exact h

theorem SameButResolver.snapshot (h : SameButResolver s t) : t.snapshot = s.snapshot := by
  obtain ⟨-, -, -, -, -, -, -, h, -⟩ := sameButResolver_iff.mp h
  exact h

theorem SameButResolver.ctl (h : SameButResolver s t) : t.ctl = s.ctl := by
  obtain ⟨-, -, -, -, -, -, -, -, h, -⟩ := sameButResolver_iff.mp h
  exact h

theorem SameButResolver.store (h : SameButResolver s t) : t.store = s.store := by
  obtain ⟨-, -, -, -, -, -, -, -, -, h, -⟩ := sameButResolver_iff.mp h
  exact h

theorem SameButResolver.meas (h : SameButResolver s t) : t.meas = s.meas := by
  obtain ⟨-, -, -, -, -, -, -, -, -, -, h, -⟩ := sameButResolver_iff.mp h
  exact h

theorem SameButResolver.receivers (h : SameButResolver s t) : t.receivers = s.receivers := by
  obtain ⟨-, -, -, -, -, -, -, -, -, -, -, h, -⟩ := sameButResolver_iff.mp h
  exact h

theorem SameButResolver.pending (h : SameButResolver s t) : t.pending = s.pending := by
  obtain ⟨-, -, -, -, -, -, -, -, -, -, -, -, h, -⟩ := sameButResolver_iff.mp h
  exact h

theorem SameButResolver.linkSilent (h : SameButResolver s t) : t.port.linkSilent = s.port.linkSilent := by
  obtain ⟨-, -, -, -, -, -, -, -, -, -, -, -, -, -, -, h, -⟩ := sameButResolver_iff.mp h
  exact h

/-! ### The resolver's operations -/

theorem appendRecord_same (r : OutRecord) (s : State) : SameButResolver s (appendRecord r s) := rfl

theorem reply_same (k : RequestKind) (tag : Nat) (c : Completion) (x : Content) (s : State) :
    SameButResolver s (reply k tag c x s) := rfl

theorem refuse_same (k : RequestKind) (tag : Nat) (c : Completion) (s : State) : SameButResolver s (refuse k tag c s) := rfl

theorem accept_same (k : RequestKind) (tag : Nat) (s : State) : SameButResolver s (accept k tag s) := rfl

theorem notify_same (r : OutRecord) (s : State) : SameButResolver s (notify r s) := by
  rw [sameButResolver_iff]; simp

theorem prot_same (p : Resolver) (s : State) : SameButResolver s { s with prot := p } := rfl

theorem raiseEdge_same (src : Source) (s : State) : SameButResolver s (raiseEdge src s) := by
  obtain ⟨-, h⟩ | ⟨-, h⟩ := raiseEdge_cases s src <;> rw [h] <;> rfl

theorem raiseCommutationFail_same (s : State) : SameButResolver s (raiseCommutationFail s) := by
  have edge : SameButResolver s (raiseEdge .commutationFail s) := raiseEdge_same _ s
  simp only [raiseCommutationFail]
  split
  · exact edge.trans ((prot_same _ _).trans (raiseEdge_same .valveTrip _))
  · exact edge

theorem endSource_same (src : Source) (c : EndCause) (s : State) : SameButResolver s (endSource src c s) := by
  rw [sameButResolver_iff]; simp

theorem moveToAction_same (src : Source) (s : State) : SameButResolver s (moveToAction src s) := by
  rw [sameButResolver_iff]; simp

theorem startTimed_same (src : Source) (s : State) : SameButResolver s (startTimed src s) := by
  rw [sameButResolver_iff]; simp

/-- A change of the converter state writes the state, and otherwise only the resolver and notices (R117). -/
theorem changeState_same (c : ConvState) (u : StateCause) (v : Option Valve) (s : State) :
    SameButResolver { s with ctl := { s.ctl with state := c } } (changeState c u v s) := by
  rw [sameButResolver_iff]; simp

/-- What a frame of the resolver leaves, a property of the other blocks keeps (`hframe`); so the close of an event keeps it when the
stop demands do (R104). -/
theorem settle_keeps {I : State → Prop} (hframe : ∀ s t, SameButResolver s t → I s → I t)
    (hstop : ∀ src s, I s → I (stopDemand src s)) (h : I s) : I (settle s) := by
  have start : ∀ src s, I s → I (startAction src s) := by
    intro src s hs
    unfold startAction
    split
    · exact hstop src _ (hframe s _ rfl hs)
    · exact hstop src s hs
    · exact hframe s _ (startTimed_same src s) hs
    · exact hframe s _ (startTimed_same src s) hs
  have loop : ∀ n s, I s → I (grantLoop n s) := by
    intro n
    induction n with
    | zero => exact fun s hs => hs
    | succ n ih =>
      intro s hs
      unfold grantLoop
      split
      · exact ih _ (start _ _ (hframe s _ (moveToAction_same _ s) hs))
      · exact hs
  exact loop 32 _ (hframe s _ (rereadConditions_same s) h)

/-! ### The states that the changes of the converter lead to -/

/-- BLOCKED as entered from any state but UNCONFIGURED (R125). -/
def blockedState (s : State) : State :=
  { s with
    ctl := { s.ctl with
      state := .blocked
      precheckTimer := none
      ready := Vector.replicate 12 false
      retardTimer := none }
    acu := { s.acu with testAngle := none }
    cal := { s.cal with orders := [], discarded := s.cal.discarded + s.cal.orders.length }
    gens := Vector.replicate 12 generatorOff }

/-- PRECHECK as entered (R119, R72, R96). -/
def precheckState (s : State) : State :=
  { s with
    ctl := { s.ctl with
      state := .precheck
      precheckTimer := some (s.now + msTicks s.store.setup.guard.precheckTimeout)
      ready := Vector.replicate 12 false }
    monitors := s.monitors.map fun m => { m with window := 0, accepted := false, armed := false }
    emitters := Vector.replicate 12 ⟨some (s.now + Config.probePulse), some ⟨.probe, s.now, some 0⟩⟩ }

/-- RUNNING as entered (R123). -/
def runningState (s : State) : State :=
  { s with
    ctl := { s.ctl with
      state := .running
      precheckTimer := none
      ready := Vector.replicate 12 false
      lastY := none
      lastD := none }
    acu := { s.acu with aPrev := s.store.setup.angles.alphaStart }
    monitors := s.monitors.map fun m => { m with armed := false } }

/-- The four BYPASS firings of an entry to BYPASS, with the other generators OFF (R126, R48, R69). -/
def bypassFired (s : State) : State :=
  bypassFirings (pairY s.ctl.lastY) (pairD s.ctl.lastD)
    (generatorsOffExcept
      [(pairY s.ctl.lastY).1, (pairY s.ctl.lastY).2, (pairD s.ctl.lastD).1, (pairD s.ctl.lastD).2] s)

/-- The converter in a state, all else as it stands. -/
def inConvState (c : ConvState) (s : State) : State := { s with ctl := { s.ctl with state := c } }

/-- RETARD as entered, before a retard_time of 0 leads on (R128). -/
def retardState (s : State) : State :=
  { s with ctl := { s.ctl with
      state := .retard
      retardTimer := some (s.now + msTicks s.store.setup.guard.retardTime) } }

/-- TESTING as entered, at a start and at a resume (R129, R132, R96). -/
def testingState (s : State) : State :=
  { s with
    ctl := { s.ctl with state := .testing }
    monitors := s.monitors.map fun m => { m with window := 0, accepted := false, armed := false } }

/-- TEST_HELD as entered (R131). -/
def heldState (s : State) : State :=
  { s with
    ctl := { s.ctl with state := .testHeld }
    cal := { s.cal with orders := [], discarded := s.cal.discarded + s.cal.orders.length }
    gens := Vector.replicate 12 generatorOff }

theorem enterBlocked_same (u : StateCause) (v : Option Valve) (s : State) :
    SameButResolver (blockedState s) (enterBlocked u v s) := changeState_same _ _ _ _

theorem enterPrecheck_same (s : State) : SameButResolver (precheckState s) (enterPrecheck s) := changeState_same _ _ _ _

theorem enterRunning_same (u : StateCause) (s : State) : SameButResolver (runningState s) (enterRunning u s) :=
  changeState_same _ _ _ _

theorem enterBypass_same (u : StateCause) (s : State) :
    SameButResolver (inConvState .bypass (bypassFired s)) (enterBypass u s) := changeState_same _ _ _ _

theorem enterTesting_same (u : StateCause) (s : State) : SameButResolver (testingState s) (enterTesting u s) :=
  changeState_same _ _ _ _

theorem enterTestHeld_same (s : State) : SameButResolver (heldState s) (enterTestHeld s) := changeState_same _ _ _ _

/-- A change made on a frame of the state is a frame of the change. -/
theorem blockedState_congr (h : SameButResolver s t) : SameButResolver (blockedState s) (blockedState t) := by
  rw [sameButResolver_iff] at *
  simp_all [blockedState]

/-- The entry to RETARD ends in RETARD, or with a retard_time of 0 in BLOCKED (R128). -/
theorem enterRetard_cases (u : StateCause) (s : State) :
    (s.store.setup.guard.retardTime ≠ 0 ∧ SameButResolver (retardState s) (enterRetard u s)) ∨
    (s.store.setup.guard.retardTime = 0 ∧ SameButResolver (blockedState (retardState s)) (enterRetard u s)) := by
  have first : SameButResolver (retardState s) (changeState .retard u none { s with ctl := { s.ctl with
      retardTimer := some (s.now + msTicks s.store.setup.guard.retardTime) } }) := changeState_same _ _ _ _
  simp only [enterRetard]
  split
  · rename_i hd
    refine .inr ⟨?_, (blockedState_congr first).trans (enterBlocked_same _ _ _)⟩
    simpa [msTicks, Config.ticksPerMs] using hd
  · rename_i hd
    refine .inl ⟨fun h0 => hd ?_, first⟩
    simp [msTicks, h0]

/-- What a stop demand leaves, by the converter state in which it is taken (R127, R128). -/
theorem stopDemand_cases (src : Source) (s : State) :
    (Unmoved s.ctl.state ∧ stopDemand src s = s) ∨
    ((s.ctl.state = .precheck ∨ s.ctl.state = .testing ∨ s.ctl.state = .testHeld) ∧
      SameButResolver (blockedState s) (stopDemand src s)) ∨
    (s.ctl.state = .running ∧
      (SameButResolver (inConvState .bypass (bypassFired s)) (stopDemand src s) ∨
        SameButResolver (retardState s) (stopDemand src s) ∨
        SameButResolver (blockedState (retardState s)) (stopDemand src s))) := by
  unfold stopDemand Unmoved
  cases hc : s.ctl.state with
  | running =>
    refine .inr (.inr ⟨rfl, ?_⟩)
    cases s.store.setup.role with
    | inverter => exact .inl (enterBypass_same _ s)
    | rectifier =>
      obtain ⟨-, h⟩ | ⟨-, h⟩ := enterRetard_cases (.source src) s
      · exact .inr (.inl h)
      · exact .inr (.inr h)
  | precheck => exact .inr (.inl ⟨by simp, enterBlocked_same _ _ s⟩)
  | testing => exact .inr (.inl ⟨by simp, enterBlocked_same _ _ s⟩)
  | testHeld => exact .inr (.inl ⟨by simp, enterBlocked_same _ _ s⟩)
  | bypass => exact .inl ⟨by simp, rfl⟩
  | retard => exact .inl ⟨by simp, rfl⟩
  | blocked => exact .inl ⟨by simp, rfl⟩
  | unconfigured => exact .inl ⟨by simp, rfl⟩

/-- A FIXED test run whose count has come to 0 ends in BLOCKED with the test-done flag (R130). -/
theorem endTestRun_cases (s : State) :
    (¬(s.ctl.state = .testing ∧ s.ctl.testMode = .fixed ∧ s.ctl.remaining = 0) ∧ endTestRun s = s) ∨
    (s.ctl.state = .testing ∧ s.ctl.testMode = .fixed ∧ s.ctl.remaining = 0 ∧
      SameButResolver (blockedState { s with ctl := { s.ctl with testDone := true } }) (endTestRun s)) := by
  unfold endTestRun
  split
  · rename_i h
    exact .inr ⟨h.1, h.2.1, h.2.2, enterBlocked_same _ _ _⟩
  · rename_i h
    exact .inl ⟨h, rfl⟩

end Sys2Proof.Machine


/-! PROOF. What each request leaves, but for the resolver and what the port has yet to send: one lemma per request, its refusals
together and each acceptance with what its rule checks. -/

namespace Sys2Proof.Machine

variable {s t : State}

/-! ### Table Store -/

/-- A refused setup record leaves the state or, for STATE, closes the sequence (R143). -/
theorem refuseRecord_cases (k : RequestKind) (tag : Nat) (c : Completion) (s : State) :
    SameButResolver s (refuseRecord k tag c s) ∨ SameButResolver (abandoned s) (refuseRecord k tag c s) := by
  unfold refuseRecord
  split
  · exact .inr rfl
  · exact .inl rfl

/-- A setup record is refused, or its step stands open at rest, its value is in range, and it is put in force (R139). -/
theorem takeRecord_cases (k : RequestKind) (tag n : Nat) (inRange : Bool) (put : State → State) (s : State) :
    (SameButResolver s (takeRecord k tag (recordRefusal n inRange s) put s) ∨
      SameButResolver (abandoned s) (takeRecord k tag (recordRefusal n inRange s) put s)) ∨
    (isAtRest s.ctl.state = true ∧ s.store.step = n ∧ inRange = true ∧
      takeRecord k tag (recordRefusal n inRange s) put s = withStep (n + 1) (put (accept k tag s))) := by
  unfold takeRecord
  split
  · exact .inl (refuseRecord_cases k tag _ s)
  · rename_i h
    unfold recordRefusal at h
    split at h
    · rename_i hrest
      split at h
      · rename_i hstep
        split at h
        · rename_i hr
          exact .inr ⟨hrest, hstep, hr, by rw [hstep]⟩
        · cases h
      · cases h
    · cases h

/-- The re-sort of the actions touches the resolver alone (R103). -/
theorem resortOnNesting_same (n : Nesting) (s : State) : SameButResolver s (resortOnNesting n s) := by
  unfold resortOnNesting
  split <;> rfl

/-- The defaults in force with their effects, and the sequence open at step 1 in UNCONFIGURED (R138, R19, R91, R38). -/
def setupBegun (s : State) : State :=
  { s with
    pru := if s.store.setup.phase.fNom = 50 then s.pru else restartPru 50
    acu := { s.acu with
      waiting := if s.store.setup.phase.fNom = 50 then s.acu.waiting
        else s.acu.waiting.map fun w => { w with applyPoint := 1 }
      cfpMargin := if s.meas.stale then 1000 else s.acu.cfpMargin }
    monitors := if s.store.setup.levels.nL = 96 then s.monitors
      else s.monitors.map fun m => { m with levels := List.replicate 96 levelCleared }
    ctl := { s.ctl with state := .unconfigured }
    store := { s.store with setup := defaultSetup, step := 1 } }

/-- The Level Table after a change of N_L is formed anew, and otherwise stands (R91). -/
theorem formOnChange_eq (n : Nat) (s : State) :
    formOnChange n s = { s with
      monitors := if s.store.setup.levels.nL = n then s.monitors
        else s.monitors.map (fun m => { m with levels := List.replicate s.store.setup.levels.nL levelCleared }) } := by
  unfold formOnChange
  split <;> rfl

/-- The margin follows cfp_boost while the measurement is stale (R38). -/
theorem followBoost_eq (s : State) :
    followBoost s = { s with acu := { s.acu with
      cfpMargin := if s.meas.stale then s.store.setup.guard.cfpBoost else s.acu.cfpMargin } } := by
  unfold followBoost
  split <;> rfl

/-- The defaults in force: `setupBegun` but for the converter state and the step. -/
def defaultsLoaded (s : State) : State :=
  { setupBegun s with ctl := s.ctl, store := { s.store with setup := defaultSetup } }

theorem loadDefaults_same (s : State) : SameButResolver (defaultsLoaded s) (loadDefaults s) := by
  have hmon : (96 = s.store.setup.levels.nL) = (s.store.setup.levels.nL = 96) := propext eq_comm
  rw [sameButResolver_iff]
  by_cases hf : s.store.setup.phase.fNom = 50
  · simp [loadDefaults, defaultsLoaded, setupBegun, formOnChange_eq, followBoost_eq, withSetup, defaultSetup, Config.defaultPhase,
      Config.defaultLevels, Config.defaultGuard, hf, hmon]
  · simp [loadDefaults, defaultsLoaded, setupBegun, formOnChange_eq, followBoost_eq, withSetup, defaultSetup, Config.defaultPhase,
      Config.defaultLevels, Config.defaultGuard, Config.defaultAngles, restartPhase, rebaseApplyPoint, hf, hmon]

/-- The only state at rest besides BLOCKED is UNCONFIGURED (R137). -/
theorem eq_unconfigured_of_isAtRest {c : ConvState} (h : isAtRest c = true) (hb : c ≠ .blocked) : c = .unconfigured := by
  cases c <;> simp_all [isAtRest]

/-- Writing the state that stands changes nothing. -/
theorem inConvState_self {c : ConvState} (h : s.ctl.state = c) : inConvState c s = s := by
  subst h
  rfl

/-- A frame of the state is a frame of the state with another step. -/
theorem withStep_congr (n : Nat) (h : SameButResolver s t) : SameButResolver (withStep n s) (withStep n t) := by
  rw [sameButResolver_iff] at *
  simp_all [withStep]

/-- What an accepted SETUP_BEGIN leaves (R138, R134). -/
theorem beginSetup_same (h : isAtRest s.ctl.state = true) : SameButResolver (setupBegun s) (beginSetup s) := by
  have hload := loadDefaults_same s
  have hctl : (loadDefaults s).ctl = s.ctl := hload.ctl
  have hchanged : SameButResolver (inConvState .unconfigured (defaultsLoaded s))
      (if (loadDefaults s).ctl.state = .blocked then changeState .unconfigured .setupBegin none (loadDefaults s)
        else loadDefaults s) := by
    split
    · refine SameButResolver.trans ?_ (changeState_same _ _ _ _)
      rw [sameButResolver_iff] at hload ⊢
      simp_all [inConvState]
    · rename_i hb
      rw [hctl] at hb
      rwa [inConvState_self (s := defaultsLoaded s) (eq_unconfigured_of_isAtRest h hb)]
  exact withStep_congr 1 hchanged

/-- What an accepted SETUP_END leaves (R142, R134). -/
theorem endSetup_same (h : isAtRest s.ctl.state = true) :
    SameButResolver (inConvState .blocked (abandoned s)) (endSetup s) := by
  simp only [endSetup]
  split
  · exact changeState_same _ _ _ _
  · rename_i hu
    change s.ctl.state ≠ .unconfigured at hu
    have hb : s.ctl.state = .blocked := not_not.mp fun hb => hu (eq_unconfigured_of_isAtRest h hb)
    rw [inConvState_self (s := abandoned s) hb]
    rfl

end Sys2Proof.Machine


/-! PROOF. The effects of which every step is made, on the blocks other than the resolver: the invariants of those blocks need each
effect once. -/

namespace Sys2Proof.Machine

variable {s t : State}

/-- The effects of the part's events on the Phase Reference Unit, the calendar, the generators, the levels, the controller and the
store, each where its rule allows it. -/
inductive Effect : State → State → Prop where
  | trans {a b c : State} : Effect a b → Effect b c → Effect a c
  /-- Only time, the ACU, the emitter lines, the snapshot, the resolver, the measurement, the port and the receivers differ. -/
  | outside {s t : State} : t.pru = s.pru → t.cal = s.cal → t.gens = s.gens → t.monitors = s.monitors → t.ctl = s.ctl →
      t.store = s.store → Effect s t
  | powerOn (q : List Instr) (s : State) : Effect s { State.reset with pending := q }
  | abandon (s : State) : Effect s (abandoned s)
  /-- A write to the controller's timers, ready set, marks or flags. -/
  | controller (c : Controller) (s : State) : c.state = s.ctl.state → c.testMode = s.ctl.testMode →
      c.programmed = s.ctl.programmed → c.remaining = s.ctl.remaining → Effect s { s with ctl := c }
  /-- A write to what is kept of the valves, with as many levels as before. -/
  | monitors (m : Vector ValveMonitor 12) (s : State) : (∀ v : Valve, m[v].levels.length = s.monitors[v].levels.length) →
      Effect s { s with monitors := m }
  /-- A write to a generator that is not OFF, or its end. -/
  | generator (v : Valve) (g : Generator) (s : State) : s.gens[v] ≠ generatorOff ∨ g = generatorOff →
      Effect s { s with gens := s.gens.set v g }
  | setupBegin (s : State) : isAtRest s.ctl.state = true → Effect s (setupBegun s)
  | setupPhase (v : PhaseValues) (s : State) : s.store.step = 1 → phaseInRange v = true →
      Effect s (withStep 2 (putPhase v s))
  | setupAngles (role : Role) (v : AngleValues) (s : State) : s.store.step = 2 → anglesInRange v = true →
      Effect s (withStep 3 (putAngles role v s))
  | setupGuard (v : GuardValues) (n : Nesting) (s : State) : s.store.step = 3 → guardInRange v = true →
      Effect s (withStep 4 (putGuard v n s))
  | setupLevels (v : LevelValues) (s : State) : s.store.step = 4 → levelsInRange v = true →
      Effect s (withStep 5 (putLevels v s))
  | setupEnd (s : State) : isAtRest s.ctl.state = true → Effect s (inConvState .blocked (abandoned s))
  | tableWrite (row : Nat) (entries : Vector Nat 8) (s : State) : (∀ e ∈ entries.toList, e ≤ 9000) →
      Effect s { s with store := writeRow row entries s.store }
  | mapWrite (y d : Vector Nat 6) (s : State) : isAtRest s.ctl.state = true → mapInRange y d = true →
      Effect s { s with store := writeMap y d s.store }
  | mapLock (s : State) : Effect s { s with store := { s.store with mapLock := true } }
  | precheck (s : State) : s.ctl.state = .blocked → Effect s (precheckState s)
  | deblockBypass (s : State) : s.ctl.state = .bypass → Effect s (runningState (holdsToTrains s))
  | ready (s : State) : s.ctl.state = .precheck → Effect s (runningState s)
  | block (s : State) : Effect s (blockedState s)
  | bypass (s : State) : s.ctl.state = .running → Effect s (inConvState .bypass (bypassFired s))
  | retard (s : State) : s.ctl.state = .running → Effect s (retardState s)
  | testStart (alpha count : Nat) (s : State) : s.ctl.state = .blocked →
      Effect s (testingState (beginTest alpha count s))
  | testSuspend (s : State) : s.ctl.state = .testing → Effect s (heldState s)
  | testResume (s : State) : s.ctl.state = .testHeld → Effect s (testingState s)
  | restartPhase (s : State) : Effect s (restartPhase s)
  | restart (s : State) : isAtRest s.ctl.state = true → Effect s (restartPart s)
  | crossing (kind lag : Nat) (s : State) : Effect s (endTestRun (takeCrossing kind lag s))
  | armedExpiry (s : State) : Effect s (endTestRun (takeArmedExpiry s))
  | firing (s : State) : Effect s (endTestRun (fireFirst s))

/-- What differs at most in the resolver and in what is to be sent is an effect outside the blocks. -/
theorem Effect.same (h : SameButResolver s t) : Effect s t :=
  .outside h.pru h.cal h.gens h.monitors h.ctl h.store

theorem Effect.refl (s : State) : Effect s s := .same rfl

/-- An effect, and then what differs only in the resolver and in what is to be sent. -/
theorem Effect.then {u : State} (h : Effect s u) (k : SameButResolver u t) : Effect s t := h.trans (.same k)

/-- The accepting reply first, and then an effect. -/
theorem Effect.accepted {k : RequestKind} {tag : Nat} (h : Effect (accept k tag s) t) : Effect s t :=
  (Effect.same (accept_same k tag s)).trans h

/-! ### The setup sequence -/

theorem refuseRecord_effect (k : RequestKind) (tag : Nat) (c : Completion) (s : State) :
    Effect s (refuseRecord k tag c s) := by
  obtain h | h := refuseRecord_cases k tag c s
  · exact .same h
  · exact (Effect.abandon s).then h

/-- A setup record's effect is that of its values, put in force at its own step. -/
theorem takeRecord_effect {k : RequestKind} {tag n : Nat} {inRange : Bool} {put : State → State}
    (h : s.store.step = n → inRange = true → Effect (accept k tag s) (withStep (n + 1) (put (accept k tag s)))) :
    Effect s (takeRecord k tag (recordRefusal n inRange s) put s) := by
  obtain (h0 | h0) | ⟨-, hstep, hr, heq⟩ := takeRecord_cases k tag n inRange put s
  · exact .same h0
  · exact (Effect.abandon s).then h0
  · rw [heq]
    exact (h hstep hr).accepted

theorem takeSetupBegin_effect (tag : Nat) (s : State) : Effect s (takeSetupBegin tag s) := by
  unfold takeSetupBegin
  split
  · exact refuseRecord_effect _ _ _ s
  · rename_i h
    have hrest : isAtRest s.ctl.state = true := by
      unfold beginRefusal at h
      split at h
      · rename_i hc
        obtain hc | ⟨hc, -⟩ := hc <;> rw [hc] <;> rfl
      · cases h
    exact ((Effect.setupBegin (accept .setupBegin tag s) hrest).then (beginSetup_same hrest)).accepted

theorem takeSetupEnd_effect (tag : Nat) (s : State) : Effect s (takeSetupEnd tag s) := by
  unfold takeSetupEnd
  split
  · exact refuseRecord_effect _ _ _ s
  · rename_i h
    have hrest : isAtRest s.ctl.state = true := by
      unfold recordRefusal at h
      split at h
      · assumption
      · cases h
    exact ((Effect.setupEnd (accept .setupEnd tag s) hrest).then (endSetup_same hrest)).accepted

/-! ### Tables -/

theorem takeTableWrite_effect (tag row : Nat) (entries : Vector Nat 8) (s : State) :
    Effect s (takeTableWrite tag row entries s) := by
  unfold takeTableWrite
  split
  · exact .same rfl
  · split
    · exact .same rfl
    · rename_i h
      have he : ∀ e ∈ entries.toList, e ≤ 9000 := by
        simp only [Bool.or_eq_true, not_or, List.any_eq_true, decide_eq_true_eq, not_exists, not_and, not_lt] at h
        exact h.2
      exact (Effect.tableWrite row entries s he).then rfl

theorem takeMapWrite_effect (tag : Nat) (y d : Vector Nat 6) (s : State) : Effect s (takeMapWrite tag y d s) := by
  unfold takeMapWrite
  split
  · exact .same rfl
  · rename_i hrest
    split
    · exact .same rfl
    · split
      · exact .same rfl
      · rename_i hmap
        exact (Effect.mapWrite y d s (by simpa using hrest) (by simpa using hmap)).then rfl

theorem takeMapLock_effect (tag : Nat) (s : State) : Effect s (takeMapLock tag s) := by
  unfold takeMapLock
  split
  · exact .same rfl
  · exact (Effect.mapLock s).then rfl

theorem takeTableRead_effect (tag : Nat) (sel : Option Selector) (s : State) : Effect s (takeTableRead tag sel s) := by
  unfold takeTableRead
  split <;> exact .same rfl

/-! ### Converter requests -/

theorem takeDeblock_effect (tag tg mg : Nat) (s : State) : Effect s (takeDeblock tag tg mg s) := by
  unfold takeDeblock
  split
  · rename_i hc
    split
    · exact .same rfl
    · unfold checked
      split
      · exact .same rfl
      · exact ((Effect.precheck (accept .deblock tag s) hc).then (enterPrecheck_same _)).accepted
  · rename_i hc
    split
    · exact .same rfl
    · unfold checked
      split
      · exact .same rfl
      · exact ((Effect.deblockBypass (accept .deblock tag s) hc).then (enterRunning_same _ _)).accepted
  · exact .same rfl

theorem takeBlock_effect (tag : Nat) (s : State) : Effect s (takeBlock tag s) := by
  unfold takeBlock
  split
  · exact .same rfl
  · exact .same rfl
  · exact ((Effect.block _).then (enterBlocked_same _ _ _)).accepted

theorem takeBypass_effect (tag : Nat) (s : State) : Effect s (takeBypass tag s) := by
  unfold takeBypass
  split
  · rename_i hc
    exact ((Effect.bypass (accept .bypass tag s) hc).then (enterBypass_same _ _)).accepted
  · exact .same rfl

theorem takeTestStart_effect (tag alpha count tg mg : Nat) (s : State) :
    Effect s (takeTestStart tag alpha count tg mg s) := by
  unfold takeTestStart
  split
  · rename_i hc
    split
    · exact .same rfl
    · unfold checked
      split
      · exact .same rfl
      · exact ((Effect.testStart alpha count (accept .testStart tag s) hc).then (enterTesting_same _ _)).accepted
  · exact .same rfl

theorem takeTestSuspend_effect (tag : Nat) (s : State) : Effect s (takeTestSuspend tag s) := by
  unfold takeTestSuspend
  split
  · rename_i hc
    exact ((Effect.testSuspend (accept .testSuspend tag s) hc).then (enterTestHeld_same _)).accepted
  · exact .same rfl

theorem takeTestResume_effect (tag : Nat) (s : State) : Effect s (takeTestResume tag s) := by
  unfold takeTestResume
  split
  · rename_i hc
    split
    · exact .same rfl
    · exact ((Effect.testResume (accept .testResume tag s) hc).then (enterTesting_same _ _)).accepted
  · exact .same rfl

theorem takeAngleOrder_effect (tag alpha : Nat) (s : State) : Effect s (takeAngleOrder tag alpha s) := by
  unfold takeAngleOrder
  split
  · exact .same rfl
  · exact .outside rfl rfl rfl rfl rfl rfl

theorem takePhaseRestart_effect (tag : Nat) (s : State) : Effect s (takePhaseRestart tag s) := by
  unfold takePhaseRestart
  split
  · exact (Effect.restartPhase _).accepted
  · exact .same rfl

theorem takeRestart_effect (tag : Nat) (s : State) : Effect s (takeRestart tag s) := by
  unfold takeRestart
  split
  · rename_i hrest
    exact (Effect.restart (accept .restart tag s) hrest).accepted
  · exact .same rfl

/-! ### Protection, levels, status and history -/

theorem takeProtMask_effect (tag : Nat) (l : List Nat) (s : State) : Effect s (takeProtMask tag l s) := by
  unfold takeProtMask
  split <;> exact .same rfl

theorem takeProtEnd_effect (tag n : Nat) (s : State) : Effect s (takeProtEnd tag n s) := by
  unfold takeProtEnd
  split
  · exact .same rfl
  · split
    · exact .same rfl
    · split
      · exact .same rfl
      · exact (Effect.same (endSource_same _ _ _)).accepted

theorem takeProtEndTop_effect (tag : Nat) (s : State) : Effect s (takeProtEndTop tag s) := by
  unfold takeProtEndTop
  split
  · exact .same rfl
  · split
    · exact .same rfl
    · exact .same ((reply_same _ _ _ _ s).trans (endSource_same _ _ _))

theorem takeLevelLatch_effect (tag : Nat) (s : State) : Effect s (takeLevelLatch tag s) := by
  unfold takeLevelLatch
  split <;> exact .outside rfl rfl rfl rfl rfl rfl

theorem takeLevelRead_effect (tag v f : Nat) (s : State) : Effect s (takeLevelRead tag v f s) := by
  unfold takeLevelRead
  split
  · exact .same rfl
  · split <;> exact .same rfl

theorem takeLevelFind_effect (tag v l : Nat) (states : List (Option LevelState)) (s : State) :
    Effect s (takeLevelFind tag v l states s) := by
  unfold takeLevelFind
  split
  · exact .same rfl
  · dsimp only
    split <;> exact .same rfl

/-- As many entries for one valve leave as many for each. -/
theorem Effect.monitor (v : Valve) (m : ValveMonitor) (s : State) (h : m.levels.length = s.monitors[v].levels.length) :
    Effect s (setMonitor v m s) := by
  refine .monitors _ s fun w => ?_
  by_cases hvw : v = w
  · subst hvw
    simpa using h
  · have : v.val ≠ w.val := fun he => hvw (Fin.ext he)
    simp [this]

theorem takeLevelClear_effect (tag v : Nat) (l : Option Nat) (s : State) : Effect s (takeLevelClear tag v l s) := by
  unfold takeLevelClear
  split
  · exact .same rfl
  · split
    · exact .same rfl
    · refine (Effect.monitor _ _ (accept .levelClear tag s) ?_).accepted
      cases l <;> simp [clearLevels]

theorem takeLevelExclude_effect (tag v l : Nat) (s : State) : Effect s (takeLevelExclude tag v l s) := by
  unfold takeLevelExclude
  split
  · exact .same rfl
  · split
    · exact .same rfl
    · exact (Effect.monitor _ _ (accept .levelExclude tag s) (by simp)).accepted

theorem takeStatus_effect (tag : Nat) (s : State) : Effect s (takeStatus tag s) :=
  (Effect.controller { s.ctl with testDone := false } s rfl rfl rfl rfl).trans (.outside rfl rfl rfl rfl rfl rfl)

theorem takeHistoryRead_effect (tag o : Nat) (s : State) : Effect s (takeHistoryRead tag o s) := by
  unfold takeHistoryRead
  split <;> exact .same rfl

/-- Every request's rule is made of effects. -/
theorem takeRequest_effect (tag : Nat) (r : Request) (s : State) : Effect s (takeRequest tag r s) := by
  cases r with
  | setupBegin => exact takeSetupBegin_effect tag s
  | setupPhase v => exact takeRecord_effect fun h1 h2 => .setupPhase v _ h1 h2
  | setupAngles role v =>
    refine takeRecord_effect fun h1 h2 => .setupAngles _ v _ h1 ?_
    simp only [Bool.and_eq_true] at h2
    exact h2.2
  | setupGuard v nesting =>
    refine takeRecord_effect fun h1 h2 => .setupGuard v _ _ h1 ?_
    simp only [Bool.and_eq_true] at h2
    exact h2.2
  | setupLevels v => exact takeRecord_effect fun h1 h2 => .setupLevels v _ h1 h2
  | setupEnd => exact takeSetupEnd_effect tag s
  | tableWrite row entries => exact takeTableWrite_effect tag row entries s
  | tableRead sel => exact takeTableRead_effect tag sel s
  | mapWrite y d => exact takeMapWrite_effect tag y d s
  | mapLock => exact takeMapLock_effect tag s
  | deblock tg mg => exact takeDeblock_effect tag tg mg s
  | block => exact takeBlock_effect tag s
  | bypass => exact takeBypass_effect tag s
  | testStart a c tg mg => exact takeTestStart_effect tag a c tg mg s
  | testSuspend => exact takeTestSuspend_effect tag s
  | testResume => exact takeTestResume_effect tag s
  | angleOrder a => exact takeAngleOrder_effect tag a s
  | phaseRestart => exact takePhaseRestart_effect tag s
  | restart => exact takeRestart_effect tag s
  | protMask l => exact takeProtMask_effect tag l s
  | protEnd n => exact takeProtEnd_effect tag n s
  | protEndTop => exact takeProtEndTop_effect tag s
  | protStatus => exact .same rfl
  | levelLatch => exact takeLevelLatch_effect tag s
  | levelRead v f => exact takeLevelRead_effect tag v f s
  | levelFind v l states => exact takeLevelFind_effect tag v l states s
  | levelRelease => exact .outside rfl rfl rfl rfl rfl rfl
  | levelClear v l => exact takeLevelClear_effect tag v l s
  | levelExclude v l => exact takeLevelExclude_effect tag v l s
  | status => exact takeStatus_effect tag s
  | historyRead o => exact takeHistoryRead_effect tag o s

/-! ### Events and moves -/

theorem takenEffects_effect (k : RequestKind) (s : State) : Effect s (takenEffects k s) := by
  have closed : Effect s (if isReadOnly k || isSetupRecord k then s else closeSequence s) := by
    split
    · exact .refl s
    · exact .abandon s
  simp only [takenEffects]
  split
  · exact closed.trans (.outside rfl rfl rfl rfl rfl rfl)
  · exact closed

/-- An accepted record's five steps (R80). -/
theorem processReturn_effect (v : Valve) (r : ReturnRecord) (s : State) : Effect s (processReturn v r s) := by
  have accepted : Effect s (markAccepted v s) := .monitor v _ s rfl
  have tested : ∀ nv u, Effect u (testCommutation v r nv u) := by
    intro nv u
    unfold testCommutation
    repeat' split
    · exact .monitor v _ u rfl
    · exact .same (raiseCommutationFail_same u)
    · exact .refl u
    · exact .refl u
  have classified : ∀ u, Effect u (classifyValve v r u) := by
    intro u
    have levels : Effect u (setMonitor v { u.monitors[v] with
        levels := classifyLevels u.store.setup.levels u.now r u.monitors[v].levels } u) :=
      .monitor v _ u (by simp [classifyLevels])
    simp only [classifyValve]
    split
    · exact levels.then (raiseEdge_same _ _)
    · exact levels
  have answered : ∀ nv u, Effect u (probeAnswer v nv u) := by
    intro nv u
    unfold probeAnswer
    split
    · exact .refl u
    · rename_i hc
      split
      · exact (Effect.block u).then (enterBlocked_same _ _ u)
      · split
        · exact (Effect.block u).then (enterBlocked_same _ _ u)
        · have joined : Effect u (joinReady v u) := .controller _ u rfl rfl rfl rfl
          dsimp only
          split
          · refine joined.trans ((Effect.ready _ ?_).then (enterRunning_same _ _))
            exact not_not.mp hc
          · exact joined
  have judged : ∀ (nv : Bool) u, Effect u (if nv then u else classifyValve v r u) := by
    intro nv u
    cases nv with
    | true => exact .refl u
    | false => exact classified u
  have whole := accepted.trans ((tested (noVoltage v r s) _).trans (judged (noVoltage v r s) _))
  simp only [processReturn]
  split
  · exact whole.trans (answered _ _)
  · exact whole

theorem refireValve_effect (v : Valve) (s : State) (h : s.gens[v].mode ≠ .off) : Effect s (refireValve v s) := by
  have hne : s.gens[v] ≠ generatorOff := fun he => h (by rw [he]; rfl)
  have pulse : Effect s (emitPulse v ⟨.main, s.now, none⟩
      (setGenerator v (refireAt s.store.setup.angles s.now s.gens[v]) s)) :=
    (Effect.generator v _ s (.inl hne)).trans (.outside rfl rfl rfl rfl rfl rfl)
  simp only [refireValve]
  split
  · exact pulse.then (raiseEdge_same _ _)
  · exact pulse

theorem endStale_effect (s : State) : Effect s (endStale s) := by
  unfold endStale
  split <;> exact .outside rfl rfl rfl rfl rfl rfl

theorem testVoltage_effect (uac : Nat) (s : State) : Effect s (testVoltage uac s) := by
  unfold testVoltage
  split <;> exact .outside rfl rfl rfl rfl rfl rfl

/-- Every event is made of effects before its close. -/
theorem Event.body_effect (e : Event) (s : State) (h : e.Ready s) : Effect s (e.body s) := by
  have popping : Effect s (popped s) := .outside rfl rfl rfl rfl rfl rfl
  cases e with
  | request tag r => exact popping.trans ((takenEffects_effect _ _).trans (takeRequest_effect tag r _))
  | badLength tag k => exact popping.trans ((takenEffects_effect _ _).then (reply_same _ _ _ _ _))
  | unknownKind tag code => exact popping.trans ((Effect.abandon _).then (appendRecord_same _ _))
  | controlFrame f =>
    change Effect s (enqueue f (touchLink s))
    exact .outside (by simp) (by simp) (by simp) (by simp) (by simp) (by simp)
  | crossing kind lag => exact .crossing kind lag s
  | sample seq id uac =>
    exact .trans (.outside (t := holdSample seq id uac s) rfl rfl rfl rfl rfl rfl)
      ((endStale_effect _).trans (testVoltage_effect _ _))
  | returnRecord line r => exact processReturn_effect line r s
  | reappear line => exact refireValve_effect line s h
  | armedExpiry => exact .armedExpiry s
  | firing => exact .firing s
  | cfpHoldExpiry => exact .outside rfl rfl rfl rfl rfl rfl
  | actionTimerExpiry src => exact .same (endSource_same _ _ s)
  | runWindowExpiry => exact .same rfl
  | precheckTimerExpiry =>
    change Effect s (precheckTimeout s)
    unfold precheckTimeout
    split
    · exact (Effect.block s).then (enterBlocked_same _ _ s)
    · exact .controller _ s rfl rfl rfl rfl
  | retardTimerExpiry =>
    change Effect s (retardTimeout s)
    unfold retardTimeout
    split
    · exact (Effect.block s).then (enterBlocked_same _ _ s)
    · exact .controller _ s rfl rfl rfl rfl
  | staleTimerExpiry => exact .outside rfl rfl rfl rfl rfl rfl
  | linkTimerExpiry => exact .outside rfl rfl rfl rfl rfl rfl
  | orderTimerExpiry => exact .outside rfl rfl rfl rfl rfl rfl

theorem stopDemand_effect (src : Source) (s : State) : Effect s (stopDemand src s) := by
  obtain ⟨-, h⟩ | ⟨-, h⟩ | ⟨hc, h | h | h⟩ := stopDemand_cases src s
  · rw [h]
    exact .refl s
  · exact (Effect.block s).then h
  · exact (Effect.bypass s hc).then h
  · exact (Effect.retard s hc).then h
  · exact ((Effect.retard s hc).trans (Effect.block _)).then h

/-- The close of an event is made of the effects of stop demands. -/
theorem settle_effect (s : State) : Effect s (settle s) :=
  settle_keeps (I := Effect s) (fun _ _ h k => k.then h) (fun src u k => k.trans (stopDemand_effect src u)) (.refl s)

/-- Every move is made of effects. -/
theorem Moves.effect (h : Moves s t) : Effect s t := by
  induction h with
  | refl s => exact .refl s
  | trans _ _ h1 h2 => exact h1.trans h2
  | event e s hr => exact (e.body_effect s hr).trans (settle_effect _)
  | time n s => exact .outside rfl rfl rfl rfl rfl rfl
  | pending q s => exact .outside rfl rfl rfl rfl rfl rfl
  | receivers rs s => exact .outside rfl rfl rfl rfl rfl rfl
  | sent s => exact .outside rfl rfl rfl rfl rfl rfl
  | repeatPulse v s e he =>
    refine (Effect.generator v (repeatPulseAt s.store.setup.angles e s.gens[v]) s (.inl fun h0 => ?_)).trans
      (.outside rfl rfl rfl rfl rfl rfl)
    rw [h0] at he
    cases he
  | trainEnd v s => exact .generator v _ s (.inr rfl)
  | powerOn s => exact .powerOn _ s

/-- Every step is made of effects. -/
theorem effect_of_step (h : step s = .next t) : Effect s t := (moves_of_step h).effect

end Sys2Proof.Machine


/-! PROOF. The calendar's operations on its list, and the invariants of the account, the calendar, the dark states and the test
count (R54, R60, R44, R43, R71, R130). -/

namespace Sys2Proof.Machine

variable {s t : State}

/-! ### What stands in the list after an order is taken -/

/-- Firing the order that stands for a valve takes it out of the list (R46). -/
@[simp] theorem fireStanding_orders (v : Valve) (s : State) :
    (fireStanding v s).cal.orders = s.cal.orders.eraseP (isStandingFor v) := by
  unfold fireStanding
  split
  · simp
  · rename_i h
    rw [List.eraseP_of_forall_not]
    simpa [List.find?_eq_none] using h

/-- The list after an order is taken: what stood for its valve is out, and the order in its place unless it is late (R45 to R47). -/
theorem takeOrder_orders (o : Order) (s : State) :
    (takeOrder o s).cal.orders =
      if o.due ≤ s.now then s.cal.orders.eraseP (isStandingFor o.valve)
      else insertOrder s.store o (s.cal.orders.eraseP (isStandingFor o.valve)) := by
  simp only [takeOrder, fireStanding_now]
  split
  · simp
  · simp [enterOrder]

/-- With one order a valve, at most one stands for a valve, so taking it out leaves the others. -/
theorem eraseP_standing_eq_filter {l : List Order} (h : (l.map (·.valve)).Nodup) (v : Valve) :
    l.eraseP (isStandingFor v) = l.filter fun o => !isStandingFor v o := by
  induction l with
  | nil => rfl
  | cons x xs ih =>
    simp only [List.map_cons, List.nodup_cons] at h
    by_cases hx : isStandingFor v x = true
    · have hv : x.valve = v := by
        simp only [isStandingFor, Bool.and_eq_true, decide_eq_true_eq] at hx
        exact hx.1
      have hrest : ∀ o ∈ xs, (!isStandingFor v o) = true := by
        intro o ho
        have hne : o.valve ≠ v := fun he => h.1 (List.mem_map.mpr ⟨o, ho, he.trans hv.symm⟩)
        simp [isStandingFor, hne]
      rw [List.eraseP_cons_of_pos hx, List.filter_cons_of_neg (by simp [hx]), List.filter_eq_self.mpr hrest]
    · rw [List.eraseP_cons_of_neg hx, List.filter_cons_of_pos (by simpa using hx), ih h.2]

/-- The valves of the list after an insertion are those before and the new one. -/
theorem insertOrder_perm (st : Store) (o : Order) (l : List Order) : (insertOrder st o l).Perm (o :: l) := by
  induction l with
  | nil => exact .refl _
  | cons x xs ih =>
    unfold insertOrder
    split
    · exact .refl _
    · exact (ih.cons x).trans (.swap o x xs)

/-- Coming before is transitive (R43). -/
theorem comesBefore_trans {st : Store} {a b c : Order} (h1 : comesBefore st a b = true) (h2 : comesBefore st b c = true) :
    comesBefore st a c = true := by
  simp only [comesBefore, Bool.or_eq_true, Bool.and_eq_true, decide_eq_true_eq] at *
  omega

/-- No order comes before another that comes before it. -/
theorem comesBefore_asymm {st : Store} {a b : Order} (h : comesBefore st a b = true) : comesBefore st b a = false := by
  simp only [comesBefore, Bool.or_eq_true, Bool.and_eq_true, Bool.or_eq_false_iff, Bool.and_eq_false_iff,
    decide_eq_true_eq, decide_eq_false_iff_not] at *
  omega

/-- An insertion keeps the list in its order (R43, R45). -/
theorem insertOrder_sorted (st : Store) (o : Order) (l : List Order)
    (h : l.Pairwise fun a b => comesBefore st b a = false) :
    (insertOrder st o l).Pairwise fun a b => comesBefore st b a = false := by
  induction l with
  | nil => simp [insertOrder]
  | cons x xs ih =>
    obtain ⟨hx, hxs⟩ := List.pairwise_cons.mp h
    unfold insertOrder
    split
    · rename_i hb
      refine List.pairwise_cons.mpr ⟨fun y hy => ?_, h⟩
      rcases List.mem_cons.mp hy with rfl | hy
      · exact comesBefore_asymm hb
      · refine Bool.eq_false_iff.mpr fun hyo => ?_
        have hyx : comesBefore st y x = true := comesBefore_trans hyo hb
        rw [hx y hy] at hyx
        cases hyx
    · rename_i hb
      refine List.pairwise_cons.mpr ⟨fun y hy => ?_, ih hxs⟩
      rcases (mem_insertOrder st o y xs).mp hy with rfl | hy
      · simpa using hb
      · exact hx y hy

/-! ### The work at a reference point -/

/-- The kind of the orders that a firing state makes is the kind that may stand in it (R34, R60). -/
theorem standingKind_of_isFiring {c : ConvState} (h : isFiring c = true) :
    standingKind c = some (if c = .testing then .test else .normal) := by
  cases c <;> simp_all [isFiring, standingKind]

/-- What the ACU may write and the taking of an order of the state's kind keep, the work at a point keeps (R26). -/
theorem afterPru_keeps {I : State → Prop} (hacu : ∀ s a, I s → I { s with acu := a })
    (horder : ∀ o s, isFiring s.ctl.state = true → standingKind s.ctl.state = some o.kind → I s → I (takeOrder o s))
    {r : Pru × Option RefPoint} (h : I { s with pru := r.1 }) : I (afterPru r s) := by
  unfold afterPru
  split
  · unfold takePoint
    split
    · simp only [usablePoint]
      split
      · rename_i hf
        have hk := standingKind_of_isFiring hf
        refine horder _ _ ?_ ?_ (horder _ _ hf hk (hacu _ _ (hacu _ _ h)))
        · rwa [takeOrder_ctl_state]
        · rwa [takeOrder_ctl_state]
      · exact hacu _ _ h
    · exact h
  · exact h

/-- The same through the armed expiry, whose point is made from the prediction in force (R8). -/
theorem takeArmedExpiry_keeps {I : State → Prop} (hpru : ∀ s u, I s → I { s with pru := u })
    (hacu : ∀ s a, I s → I { s with acu := a })
    (horder : ∀ o s, isFiring s.ctl.state = true → standingKind s.ctl.state = some o.kind → I s → I (takeOrder o s))
    (h : I s) : I (takeArmedExpiry s) := by
  unfold takeArmedExpiry
  split
  · exact afterPru_keeps hacu horder (hpru _ _ h)
  · exact h

theorem takeCrossing_keeps {I : State → Prop} (hpru : ∀ s u, I s → I { s with pru := u })
    (hacu : ∀ s a, I s → I { s with acu := a })
    (horder : ∀ o s, isFiring s.ctl.state = true → standingKind s.ctl.state = some o.kind → I s → I (takeOrder o s))
    (kind lag : Nat) (h : I s) : I (takeCrossing kind lag s) :=
  afterPru_keeps hacu horder (hpru _ _ h)

/-! ### The account (R54) -/

/-- The account depends on the calendar alone. -/
theorem AccountInv.congr (h : AccountInv s) (hc : t.cal = s.cal) : AccountInv t := by
  unfold AccountInv at *
  rwa [hc]

/-- A standing order that is fired is counted once in the list or once as fired. -/
theorem fireStanding_account (v : Valve) (s : State) :
    (fireStanding v s).cal.created = s.cal.created ∧ (fireStanding v s).cal.discarded = s.cal.discarded ∧
    (fireStanding v s).cal.fired + (fireStanding v s).cal.orders.length = s.cal.fired + s.cal.orders.length := by
  unfold fireStanding
  split
  · rename_i o ho
    have hmem : o ∈ s.cal.orders := List.mem_of_find?_eq_some ho
    have hlen := List.length_eraseP_of_mem hmem (List.find?_some ho)
    have hpos := List.length_pos_of_mem hmem
    refine ⟨by simp, by simp, ?_⟩
    simp [hlen]
    omega
  · exact ⟨rfl, rfl, rfl⟩

theorem takeOrder_account (o : Order) (h : AccountInv s) : AccountInv (takeOrder o s) := by
  obtain ⟨hcreated, hdiscarded, hfired⟩ :=
    fireStanding_account o.valve { s with cal := { s.cal with created := s.cal.created + 1 } }
  dsimp only at hcreated hdiscarded hfired
  unfold AccountInv at *
  simp only [takeOrder]
  split
  · simp only [fireOrder_cal]
    omega
  · simp only [enterOrder, insertOrder_length]
    omega

theorem fireFirst_account (h : AccountInv s) : AccountInv (fireFirst s) := by
  unfold AccountInv at *
  unfold fireFirst
  split
  · rename_i o rest ho
    simp only [fireOrder_cal, h, ho, List.length_cons]
    omega
  · exact h

theorem blockedState_account (h : AccountInv s) : AccountInv (blockedState s) := by
  unfold AccountInv at *
  simp [blockedState, h]
  omega

theorem endTestRun_account (h : AccountInv s) : AccountInv (endTestRun s) := by
  obtain ⟨-, he⟩ | ⟨-, -, -, he⟩ := endTestRun_cases s
  · rwa [he]
  · exact (blockedState_account (s := { s with ctl := { s.ctl with testDone := true } }) h).congr he.cal

theorem bypassFired_account (h : AccountInv s) : AccountInv (bypassFired s) := by
  obtain ⟨horders, hcreated, hfired, hdiscarded⟩ := bypassFirings_account
    (generatorsOffExcept [(pairY s.ctl.lastY).1, (pairY s.ctl.lastY).2, (pairD s.ctl.lastD).1, (pairD s.ctl.lastD).2] s)
    (pairY s.ctl.lastY) (pairD s.ctl.lastD)
  have hsplit : (s.cal.orders.filter fun o => decide (o.kind ≠ .normal)).length +
      s.cal.orders.countP (fun o => decide (o.kind = .normal)) = s.cal.orders.length := by
    rw [← List.countP_eq_length_filter, List.length_eq_countP_add_countP (fun o => decide (o.kind = .normal)), Nat.add_comm]
    simp
  unfold AccountInv at *
  simp only [generatorsOffExcept_cal] at horders hcreated hfired hdiscarded
  unfold bypassFired
  rw [hcreated, hfired, hdiscarded, horders]
  omega

theorem Effect.account (h : Effect s t) : AccountInv s → AccountInv t := by
  induction h with
  | trans _ _ h1 h2 => exact fun h => h2 (h1 h)
  | outside _ hcal => exact fun h => h.congr hcal
  | powerOn => exact fun _ => rfl
  | setupGuard v n s => exact fun h => h.congr (by simp [putGuard])
  | setupLevels v s => exact fun h => h.congr (by simp [putLevels])
  | block => exact blockedState_account
  | bypass => exact bypassFired_account
  | testSuspend => exact blockedState_account
  | restart => exact fun _ => rfl
  | crossing kind lag =>
    exact fun h => endTestRun_account
      (takeCrossing_keeps (fun _ _ h => h) (fun _ _ h => h) (fun o _ _ _ h => takeOrder_account o h) kind lag h)
  | armedExpiry =>
    exact fun h => endTestRun_account
      (takeArmedExpiry_keeps (fun _ _ h => h) (fun _ _ h => h) (fun o _ _ _ h => takeOrder_account o h) h)
  | firing => exact fun h => endTestRun_account (fireFirst_account h)
  | _ => exact id

/-- Settles O54: each effect keeps the account. -/
theorem stepKeepsTheAccount : Obligations.StepKeepsTheAccount :=
  fun _ _ hs h => (effect_of_step h).account hs

end Sys2Proof.Machine


/-! PROOF. The calendar's kinds, valves and order, the dark states and the test count (R60, R44, R43, R71, R130). -/

namespace Sys2Proof.Machine

variable {s t : State}

/-! ### Kinds and valves (R60, R44) -/

/-- The calendar's kinds and valves depend on the list and the converter state alone. -/
theorem CalendarInv.congr (h : CalendarInv s) (ho : t.cal.orders = s.cal.orders) (hc : t.ctl.state = s.ctl.state) :
    CalendarInv t := by
  unfold CalendarInv at *
  rwa [ho, hc]

/-- In a state in which no order may stand the list is empty (R60). -/
theorem CalendarInv.orders_eq_nil (h : CalendarInv s) (hc : standingKind s.ctl.state = none) : s.cal.orders = [] := by
  refine List.eq_nil_iff_forall_not_mem.mpr fun o ho => ?_
  have hk := h.1 o ho
  rw [hc] at hk
  cases hk

/-- An empty list stands in every state. -/
theorem calendarInv_of_nil (h : t.cal.orders = []) : CalendarInv t := by
  unfold CalendarInv
  simp [h]

/-- A list with fewer entries, in the same converter state. -/
theorem CalendarInv.sublist (h : CalendarInv s) (ho : t.cal.orders.Sublist s.cal.orders) (hc : t.ctl.state = s.ctl.state) :
    CalendarInv t :=
  ⟨fun o hm => hc ▸ h.1 o (ho.subset hm), (ho.map _).nodup h.2⟩

/-- Where only NORMAL or TEST orders stand, no order of the valve is left once the one that stands for it is out (R46). -/
theorem CalendarInv.valve_ne_of_mem_eraseP (h : CalendarInv s) {v : Valve} {x : Order}
    (hx : x ∈ s.cal.orders.eraseP (isStandingFor v)) : x.valve ≠ v := by
  rw [eraseP_standing_eq_filter h.2, List.mem_filter] at hx
  obtain ⟨hmem, hnot⟩ := hx
  have hkind : x.kind ≠ .bypass := by
    intro hb
    have hk := h.1 x hmem
    rw [hb] at hk
    cases hc : s.ctl.state <;> rw [hc] at hk <;> cases hk
  simp only [isStandingFor, Bool.not_eq_true', Bool.and_eq_false_iff, decide_eq_false_iff_not] at hnot
  exact hnot.resolve_right (not_not.mpr hkind)

/-- The taking of an order of the state's kind keeps the kinds and one order a valve (R45, R46). -/
theorem takeOrder_calendar {o : Order} (hk : standingKind s.ctl.state = some o.kind) (h : CalendarInv s) :
    CalendarInv (takeOrder o s) := by
  have erased : CalendarInv { s with cal := { s.cal with orders := s.cal.orders.eraseP (isStandingFor o.valve) } } :=
    h.sublist List.eraseP_sublist rfl
  by_cases hd : o.due ≤ s.now
  · exact erased.congr (by rw [takeOrder_orders, if_pos hd]) (takeOrder_ctl_state s o)
  · have horders : (takeOrder o s).cal.orders =
        insertOrder s.store o (s.cal.orders.eraseP (isStandingFor o.valve)) := by rw [takeOrder_orders, if_neg hd]
    unfold CalendarInv
    rw [horders, takeOrder_ctl_state]
    refine ⟨fun x hx => ?_, ?_⟩
    · rcases (mem_insertOrder _ _ _ _).mp hx with rfl | hx
      · exact hk
      · exact erased.1 x hx
    · rw [((insertOrder_perm s.store o _).map _).nodup_iff, List.map_cons, List.nodup_cons]
      refine ⟨fun hm => ?_, erased.2⟩
      obtain ⟨x, hx, hv⟩ := List.mem_map.mp hm
      exact h.valve_ne_of_mem_eraseP hx hv

/-- The firing of the first entry takes it out of the list (R49). -/
@[simp] theorem fireFirst_orders (s : State) : (fireFirst s).cal.orders = s.cal.orders.tail := by
  unfold fireFirst
  split <;> simp_all

@[simp] theorem fireFirst_ctl_state (s : State) : (fireFirst s).ctl.state = s.ctl.state := by
  unfold fireFirst
  split <;> simp

@[simp] theorem fireFirst_store (s : State) : (fireFirst s).store = s.store := by
  unfold fireFirst
  split <;> simp

/-- With an empty list there is nothing to fire. -/
theorem fireFirst_of_nil (h : s.cal.orders = []) : fireFirst s = s := by
  simp [fireFirst, h]

theorem fireFirst_calendar (h : CalendarInv s) : CalendarInv (fireFirst s) :=
  h.sublist (by rw [fireFirst_orders]; exact List.tail_sublist _) (fireFirst_ctl_state s)

/-- The end of a test run leaves the list empty, or everything as it stands (R130). -/
theorem endTestRun_orders (s : State) : endTestRun s = s ∨ (endTestRun s).cal.orders = [] := by
  obtain ⟨-, he⟩ | ⟨-, -, -, he⟩ := endTestRun_cases s
  · exact .inl he
  · exact .inr (by rw [he.cal]; rfl)

theorem endTestRun_calendar (h : CalendarInv s) : CalendarInv (endTestRun s) := by
  obtain he | he := endTestRun_orders s
  · rwa [he]
  · exact calendarInv_of_nil he

/-- The entry to BYPASS from RUNNING discards all that stands there, which is NORMAL (R48, R60). -/
theorem bypassFired_orders (h : CalendarInv s) (hc : s.ctl.state = .running) : (bypassFired s).cal.orders = [] := by
  unfold bypassFired
  rw [(bypassFirings_account _ _ _).1, List.filter_eq_nil_iff]
  intro o ho
  have hk := h.1 o ho
  rw [hc] at hk
  have hkind : o.kind = .normal := (Option.some.inj hk).symm
  simp [hkind]

/-- A state at rest holds no order (R60). -/
theorem CalendarInv.nil_at_rest (h : CalendarInv s) (hc : isAtRest s.ctl.state = true) : s.cal.orders = [] :=
  h.orders_eq_nil (by cases hs : s.ctl.state <;> simp_all [isAtRest, standingKind])

theorem Effect.calendar (h : Effect s t) : CalendarInv s → CalendarInv t := by
  induction h with
  | trans _ _ h1 h2 => exact fun h => h2 (h1 h)
  | outside _ hcal _ _ hctl => exact fun h => h.congr (by rw [hcal]) (by rw [hctl])
  | powerOn => exact fun _ => calendarInv_of_nil rfl
  | controller c s hc => exact fun h => h.congr rfl hc
  | setupBegin s hr => exact fun h => calendarInv_of_nil (h.nil_at_rest hr)
  | setupGuard v n s => exact fun h => h.congr (by simp [putGuard]) (by simp [putGuard])
  | setupLevels v s => exact fun h => h.congr (by simp [putLevels]) (by simp [putLevels])
  | setupEnd s hr => exact fun h => calendarInv_of_nil (h.nil_at_rest hr)
  | precheck s hc => exact fun h => calendarInv_of_nil (h.orders_eq_nil (by rw [hc]; rfl))
  | deblockBypass s hc => exact fun h => calendarInv_of_nil (h.orders_eq_nil (by rw [hc]; rfl))
  | ready s hc => exact fun h => calendarInv_of_nil (h.orders_eq_nil (by rw [hc]; rfl))
  | block => exact fun _ => calendarInv_of_nil rfl
  | bypass s hc => exact fun h => calendarInv_of_nil (bypassFired_orders h hc)
  | retard s hc =>
    refine fun h => ⟨fun o ho => ?_, h.2⟩
    have hk := h.1 o ho
    rwa [hc] at hk
  | testStart a n s hc => exact fun h => calendarInv_of_nil (h.orders_eq_nil (by rw [hc]; rfl))
  | testSuspend => exact fun _ => calendarInv_of_nil rfl
  | testResume s hc => exact fun h => calendarInv_of_nil (h.orders_eq_nil (by rw [hc]; rfl))
  | restart => exact fun _ => calendarInv_of_nil rfl
  | crossing kind lag =>
    exact fun h => endTestRun_calendar
      (takeCrossing_keeps (fun _ _ h => h) (fun _ _ h => h) (fun _ _ _ hk h => takeOrder_calendar hk h) kind lag h)
  | armedExpiry =>
    exact fun h => endTestRun_calendar
      (takeArmedExpiry_keeps (fun _ _ h => h) (fun _ _ h => h) (fun _ _ _ hk h => takeOrder_calendar hk h) h)
  | firing => exact fun h => endTestRun_calendar (fireFirst_calendar h)
  | _ => exact id

/-! ### The order of the list (R43) -/

/-- The order of the list depends on the list and on the map in force. -/
theorem SortedInv.congr (h : SortedInv s) (ho : t.cal.orders.Sublist s.cal.orders)
    (hy : t.store.yMap = s.store.yMap) (hd : t.store.dMap = s.store.dMap) : SortedInv t := by
  have htie : ∀ a, tiePosition t.store a = tiePosition s.store a := by
    intro a
    unfold tiePosition sequencePosition
    rw [hy, hd]
  have hb : ∀ a b, comesBefore t.store a b = comesBefore s.store a b := by
    intro a b
    unfold comesBefore
    rw [htie a, htie b]
  unfold SortedInv at *
  simp only [hb]
  exact h.sublist ho

theorem sortedInv_of_nil (h : t.cal.orders = []) : SortedInv t := by
  unfold SortedInv
  simp [h]

theorem takeOrder_sorted (o : Order) (h : SortedInv s) : SortedInv (takeOrder o s) := by
  have erased : SortedInv { s with cal := { s.cal with orders := s.cal.orders.eraseP (isStandingFor o.valve) } } :=
    h.congr List.eraseP_sublist rfl rfl
  by_cases hd : o.due ≤ s.now
  · exact erased.congr (by rw [takeOrder_orders, if_pos hd]) (by simp) (by simp)
  · unfold SortedInv
    rw [takeOrder_orders, if_neg hd, takeOrder_store]
    exact insertOrder_sorted _ _ _ erased

theorem fireFirst_sorted (h : SortedInv s) : SortedInv (fireFirst s) :=
  h.congr (by rw [fireFirst_orders]; exact List.tail_sublist _) (by simp) (by simp)

theorem endTestRun_sorted (h : SortedInv s) : SortedInv (endTestRun s) := by
  obtain he | he := endTestRun_orders s
  · rwa [he]
  · exact sortedInv_of_nil he

/-- Every effect keeps the order of the list; where the map is written or the list handed on, the list is empty (R60). -/
theorem Effect.sorted (h : Effect s t) : CalendarInv s → SortedInv s → SortedInv t := by
  induction h with
  | trans e1 _ h1 h2 => exact fun hc h => h2 (e1.calendar hc) (h1 hc h)
  | outside _ hcal _ _ _ hstore => exact fun _ h => h.congr (by rw [hcal]) (by rw [hstore]) (by rw [hstore])
  | powerOn => exact fun _ _ => sortedInv_of_nil rfl
  | setupGuard v n s =>
    exact fun _ h => h.congr (by simp [putGuard]) (by simp [putGuard, withSetup, withStep])
      (by simp [putGuard, withSetup, withStep])
  | setupLevels v s =>
    exact fun _ h => h.congr (by simp [putLevels]) (by simp [putLevels, withSetup, withStep])
      (by simp [putLevels, withSetup, withStep])
  | mapWrite y d s hr => exact fun hc _ => sortedInv_of_nil (hc.nil_at_rest hr)
  | block => exact fun _ _ => sortedInv_of_nil rfl
  | bypass s hc => exact fun h _ => sortedInv_of_nil (bypassFired_orders h hc)
  | testSuspend => exact fun _ _ => sortedInv_of_nil rfl
  | restart => exact fun _ _ => sortedInv_of_nil rfl
  | crossing kind lag =>
    exact fun _ h => endTestRun_sorted
      (takeCrossing_keeps (fun _ _ h => h) (fun _ _ h => h) (fun o _ _ _ h => takeOrder_sorted o h) kind lag h)
  | armedExpiry =>
    exact fun _ h => endTestRun_sorted
      (takeArmedExpiry_keeps (fun _ _ h => h) (fun _ _ h => h) (fun o _ _ _ h => takeOrder_sorted o h) h)
  | firing => exact fun _ h => endTestRun_sorted (fireFirst_sorted h)
  | _ => exact fun _ h => h

/-- Settles O55: each effect keeps the kinds and valves, and with them the order. -/
theorem stepKeepsTheCalendar : Obligations.StepKeepsTheCalendar := by
  intro s t hc hs h
  have effect := effect_of_step h
  exact ⟨effect.calendar hc, effect.sorted hc hs⟩

/-! ### Dark states (R71) -/

theorem DarkInv.congr (h : DarkInv s) (hg : t.gens = s.gens) (hc : t.ctl.state = s.ctl.state) : DarkInv t := by
  unfold DarkInv at *
  rwa [hg, hc]

/-- A state that is not dark asks nothing of the generators. -/
theorem darkInv_of_lit (h : isDark t.ctl.state = false) : DarkInv t := by
  intro hd
  rw [h] at hd
  cases hd

/-- Every generator OFF stands in every state. -/
theorem darkInv_of_off (h : t.gens = Vector.replicate 12 generatorOff) : DarkInv t := by
  intro _ v
  simp [h]

/-- A firing state is not dark. -/
theorem isDark_of_isFiring {c : ConvState} (h : isFiring c = true) : isDark c = false := by
  cases c <;> simp_all [isFiring, isDark]

theorem endTestRun_dark (h : DarkInv s) : DarkInv (endTestRun s) := by
  obtain ⟨-, he⟩ | ⟨-, -, -, he⟩ := endTestRun_cases s
  · rwa [he]
  · exact darkInv_of_off he.gens

/-- In a dark state the list is empty, so nothing is fired there (R60). -/
theorem fireFirst_dark (hc : CalendarInv s) (h : DarkInv s) : DarkInv (fireFirst s) := by
  by_cases hd : isDark s.ctl.state = true
  · rwa [fireFirst_of_nil (hc.orders_eq_nil (by cases hs : s.ctl.state <;> simp_all [isDark, standingKind]))]
  · exact darkInv_of_lit (by simpa using hd)

theorem takeOrder_dark {o : Order} (h : isFiring s.ctl.state = true) : DarkInv (takeOrder o s) :=
  darkInv_of_lit (by simpa using isDark_of_isFiring h)

/-- The generators after a write to one that was not OFF, or to OFF. -/
theorem generator_dark {v : Valve} {g : Generator} (hg : s.gens[v] ≠ generatorOff ∨ g = generatorOff) (h : DarkInv s) :
    DarkInv { s with gens := s.gens.set v g } := by
  intro hd w
  have off := h hd
  have hgo : g = generatorOff := hg.resolve_left (not_not.mpr (off v))
  by_cases hvw : v.val = w.val
  · simp [hvw, hgo]
  · simpa [hvw] using off w

theorem Effect.dark (h : Effect s t) : CalendarInv s → DarkInv s → DarkInv t := by
  induction h with
  | trans e1 _ h1 h2 => exact fun hc h => h2 (e1.calendar hc) (h1 hc h)
  | outside _ _ hgens _ hctl => exact fun _ h => h.congr hgens (by rw [hctl])
  | powerOn => exact fun _ _ => darkInv_of_off rfl
  | controller c s hc => exact fun _ h => h.congr rfl hc
  | generator v g s hg => exact fun _ h => generator_dark hg h
  | setupBegin s hr => exact fun _ h _ => h (by cases hs : s.ctl.state <;> simp_all [isAtRest, isDark])
  | setupGuard v n s => exact fun _ h => h.congr (by simp [putGuard]) (by simp [putGuard])
  | setupLevels v s => exact fun _ h => h.congr (by simp [putLevels]) (by simp [putLevels])
  | setupEnd s hr => exact fun _ h _ => h (by cases hs : s.ctl.state <;> simp_all [isAtRest, isDark])
  | precheck s hc => exact fun _ h _ => h (by rw [hc]; rfl)
  | deblockBypass => exact fun _ _ => darkInv_of_lit rfl
  | ready => exact fun _ _ => darkInv_of_lit rfl
  | block => exact fun _ _ => darkInv_of_off rfl
  | bypass => exact fun _ _ => darkInv_of_lit rfl
  | retard => exact fun _ _ => darkInv_of_lit rfl
  | testStart => exact fun _ _ => darkInv_of_lit rfl
  | testSuspend => exact fun _ _ => darkInv_of_off rfl
  | testResume => exact fun _ _ => darkInv_of_lit rfl
  | restart => exact fun _ _ => darkInv_of_off rfl
  | crossing kind lag =>
    exact fun _ h => endTestRun_dark
      (takeCrossing_keeps (fun _ _ h => h) (fun _ _ h => h) (fun _ _ hf _ _ => takeOrder_dark hf) kind lag h)
  | armedExpiry =>
    exact fun _ h => endTestRun_dark
      (takeArmedExpiry_keeps (fun _ _ h => h) (fun _ _ h => h) (fun _ _ hf _ _ => takeOrder_dark hf) h)
  | firing => exact fun hc h => endTestRun_dark (fireFirst_dark hc h)
  | _ => exact fun _ h => h

/-! ### The test count (R130) -/

/-- The counts of a test run within an event: only a FIXED run may stand at 0, until the event's end blocks it (R130, R50). -/
def RunInv (s : State) : Prop :=
  (s.ctl.state = .testing → 1 ≤ s.ctl.programmed ∧ s.ctl.remaining ≤ s.ctl.programmed ∧
    (s.ctl.testMode = .continuous → 1 ≤ s.ctl.remaining)) ∧
  (s.ctl.state = .testHeld → 1 ≤ s.ctl.remaining ∧ s.ctl.remaining ≤ s.ctl.programmed)

theorem TestCountInv.run (h : TestCountInv s) : RunInv s :=
  ⟨fun hc => by have := h (.inl hc); omega, fun hc => h (.inr hc)⟩

/-- The end of a FIXED run at 0 leaves a count within its range (R130). -/
theorem endTestRun_testCount (h : RunInv s) : TestCountInv (endTestRun s) := by
  obtain ⟨hn, he⟩ | ⟨-, -, -, he⟩ := endTestRun_cases s
  · rw [he]
    rintro (hc | hc)
    · obtain ⟨h1, h2, h3⟩ := h.1 hc
      refine ⟨?_, h2⟩
      cases hm : s.ctl.testMode with
      | continuous => exact h3 hm
      | fixed => exact Nat.pos_of_ne_zero fun h0 => hn ⟨hc, hm, h0⟩
    · exact h.2 hc
  · intro hc
    rw [he.ctl] at hc
    rcases hc with hc | hc <;> cases hc

/-- A TEST firing of Y_0 lowers the count by 1, or reloads a CONTINUOUS run that came to 0 (R130). -/
theorem fireOrder_remaining (o : Order) (s : State) :
    (fireOrder o s).ctl.remaining = s.ctl.remaining ∨
    ((fireOrder o s).ctl.remaining = s.ctl.remaining - 1 ∧ ¬(s.ctl.remaining - 1 = 0 ∧ s.ctl.testMode = .continuous)) ∨
    (fireOrder o s).ctl.remaining = s.ctl.programmed := by
  simp only [fireOrder, countTest]
  split
  · split
    · exact .inr (.inr (by simp))
    · rename_i hn
      simp only [markFired_ctl_remaining, markFired_ctl_testMode, pulseFiring_ctl, windowFiring_ctl, countFiring_ctl] at hn
      exact .inr (.inl ⟨by simp, hn⟩)
  · exact .inl (by simp)

/-- A firing in TESTING keeps the counts, outside TEST_HELD. -/
theorem fireOrder_run (o : Order) (hn : s.ctl.state ≠ .testHeld) (h : RunInv s) : RunInv (fireOrder o s) := by
  refine ⟨fun hc => ?_, fun hc => absurd (by simpa using hc) hn⟩
  obtain ⟨h1, h2, h3⟩ := h.1 (by simpa using hc)
  have hr := fireOrder_remaining o s
  simp only [fireOrder_ctl_programmed, fireOrder_ctl_testMode]
  refine ⟨h1, by omega, fun hm => ?_⟩
  have h3 := h3 hm
  simp only [hm, and_true] at hr
  omega

theorem RunInv.congr (h : RunInv s) (hc : t.ctl = s.ctl) : RunInv t := by
  unfold RunInv at *
  rwa [hc]

theorem takeOrder_run {o : Order} (hf : isFiring s.ctl.state = true) (h : RunInv s) : RunInv (takeOrder o s) := by
  have hn : s.ctl.state ≠ .testHeld := by
    intro hc
    rw [hc] at hf
    cases hf
  have standing : ∀ u : State, u.ctl = s.ctl → RunInv (fireStanding o.valve u) := by
    intro u hu
    unfold fireStanding
    split
    · exact fireOrder_run _ (by simpa [hu] using hn) (h.congr hu)
    · exact h.congr hu
  simp only [takeOrder]
  split
  · exact fireOrder_run _ (by simpa using hn) (standing _ rfl)
  · exact (standing { s with cal := { s.cal with created := s.cal.created + 1 } } rfl).congr (enterOrder_ctl _ o)

theorem fireFirst_run (hc : CalendarInv s) (h : RunInv s) : RunInv (fireFirst s) := by
  by_cases hn : s.ctl.state = .testHeld
  · rwa [fireFirst_of_nil (hc.orders_eq_nil (by rw [hn]; rfl))]
  · unfold fireFirst
    split
    · exact fireOrder_run _ hn (h.congr rfl)
    · exact h

theorem TestCountInv.congr (h : TestCountInv s) (hs : t.ctl.state = s.ctl.state) (hp : t.ctl.programmed = s.ctl.programmed)
    (hr : t.ctl.remaining = s.ctl.remaining) : TestCountInv t := by
  unfold TestCountInv at *
  rwa [hs, hp, hr]

/-- Outside TESTING and TEST_HELD the counts are free. -/
theorem testCountInv_of_ne (h1 : t.ctl.state ≠ .testing) (h2 : t.ctl.state ≠ .testHeld) : TestCountInv t :=
  fun hc => hc.elim (absurd · h1) (absurd · h2)

theorem Effect.testCount (h : Effect s t) : CalendarInv s → TestCountInv s → TestCountInv t := by
  induction h with
  | trans e1 _ h1 h2 => exact fun hc h => h2 (e1.calendar hc) (h1 hc h)
  | outside _ _ _ _ hctl => exact fun _ h => h.congr (by rw [hctl]) (by rw [hctl]) (by rw [hctl])
  | powerOn => exact fun _ _ => testCountInv_of_ne nofun nofun
  | controller c s h1 _ h3 h4 => exact fun _ h => h.congr h1 h3 h4
  | setupBegin => exact fun _ _ => testCountInv_of_ne nofun nofun
  | setupGuard v n s => exact fun _ h => h.congr (by simp [putGuard]) (by simp [putGuard]) (by simp [putGuard])
  | setupLevels v s => exact fun _ h => h.congr (by simp [putLevels]) (by simp [putLevels]) (by simp [putLevels])
  | setupEnd => exact fun _ _ => testCountInv_of_ne nofun nofun
  | precheck => exact fun _ _ => testCountInv_of_ne nofun nofun
  | deblockBypass => exact fun _ _ => testCountInv_of_ne nofun nofun
  | ready => exact fun _ _ => testCountInv_of_ne nofun nofun
  | block => exact fun _ _ => testCountInv_of_ne nofun nofun
  | bypass => exact fun _ _ => testCountInv_of_ne nofun nofun
  | retard => exact fun _ _ => testCountInv_of_ne nofun nofun
  | testStart a n s =>
    intro _ _ _
    by_cases hn : n = 0
    · simp [testingState, beginTest, hn, Config.maxWord]
    · simp [testingState, beginTest, hn]
      omega
  | testSuspend s hc => exact fun _ h _ => h (.inl hc)
  | testResume s hc => exact fun _ h _ => h (.inr hc)
  | restart s hr =>
    exact fun _ _ => testCountInv_of_ne (by rintro (hc : s.ctl.state = _); rw [hc] at hr; cases hr)
      (by rintro (hc : s.ctl.state = _); rw [hc] at hr; cases hr)
  | crossing kind lag =>
    exact fun _ h => endTestRun_testCount
      (takeCrossing_keeps (fun _ _ h => h) (fun _ _ h => h) (fun _ _ hf _ h => takeOrder_run hf h) kind lag h.run)
  | armedExpiry =>
    exact fun _ h => endTestRun_testCount
      (takeArmedExpiry_keeps (fun _ _ h => h) (fun _ _ h => h) (fun _ _ hf _ h => takeOrder_run hf h) h.run)
  | firing => exact fun hc h => endTestRun_testCount (fireFirst_run hc h.run)
  | _ => exact fun _ h => h

/-- Settles O56: each effect keeps the dark states and the counts, given the calendar's kinds that it keeps too. -/
theorem stepKeepsDarkAndTestCount : Obligations.StepKeepsDarkAndTestCount := by
  intro s t hc hd ht h
  have effect := effect_of_step h
  exact ⟨effect.dark hc hd, effect.testCount hc ht⟩

end Sys2Proof.Machine


/-! PROOF. The Phase Reference Unit within its limits (R5, R10, R11, R12), and the store and the levels within their ranges (R140,
R139, R91, R144, R145). -/

namespace Sys2Proof.Machine

variable {s t : State}

/-! ### What a reference point leaves of the other blocks -/

/-- What the ACU and the taking of orders leave, the work at a point leaves. -/
theorem afterPru_frame {α : Type} (f : State → α) (hacu : ∀ s a, f { s with acu := a } = f s)
    (horder : ∀ o s, f (takeOrder o s) = f s) (r : Pru × Option RefPoint) (s : State) :
    f (afterPru r s) = f { s with pru := r.1 } :=
  afterPru_keeps (I := fun u => f u = f { s with pru := r.1 }) (fun u a h => (hacu u a).trans h)
    (fun o u _ _ h => (horder o u).trans h) rfl

@[simp] theorem afterPru_pru (r : Pru × Option RefPoint) (s : State) : (afterPru r s).pru = r.1 :=
  afterPru_frame State.pru (fun _ _ => rfl) (fun o s => takeOrder_pru s o) r s

@[simp] theorem afterPru_store (r : Pru × Option RefPoint) (s : State) : (afterPru r s).store = s.store :=
  afterPru_frame State.store (fun _ _ => rfl) (fun o s => takeOrder_store s o) r s

@[simp] theorem afterPru_levels (r : Pru × Option RefPoint) (s : State) (i : Nat) (hi : i < 12) :
    ((afterPru r s).monitors[i]'hi).levels = (s.monitors[i]'hi).levels :=
  afterPru_frame (fun u => (u.monitors[i]'hi).levels) (fun _ _ => rfl) (fun o s => takeOrder_levels s o i hi) r s

@[simp] theorem takeArmedExpiry_store (s : State) : (takeArmedExpiry s).store = s.store := by
  unfold takeArmedExpiry
  split <;> simp

@[simp] theorem takeArmedExpiry_levels (s : State) (i : Nat) (hi : i < 12) :
    ((takeArmedExpiry s).monitors[i]'hi).levels = (s.monitors[i]'hi).levels := by
  unfold takeArmedExpiry
  split
  · exact afterPru_levels _ s i hi
  · rfl

@[simp] theorem fireFirst_levels (s : State) (i : Nat) (hi : i < 12) :
    ((fireFirst s).monitors[i]'hi).levels = (s.monitors[i]'hi).levels := by
  unfold fireFirst
  split
  · exact fireOrder_levels _ _ i hi
  · rfl

@[simp] theorem fireFirst_pru (s : State) : (fireFirst s).pru = s.pru := by
  unfold fireFirst
  split <;> simp

/-! ### The Phase Reference Unit -/

/-- What `PhaseInv` says of a PRU under a nominal frequency. -/
def PruWithin (fNom : Nat) (u : Pru) : Prop :=
  pMin fNom ≤ u.p ∧ u.p ≤ pMax fNom ∧ u.k < 6 ∧ u.distorted ≤ 65535 ∧ (u.lock = .unlocked ↔ u.pred = none) ∧
    (u.lock = .unlocked → u.k = 0 ∧ u.good = 0 ∧ u.flywheel = 0 ∧ u.holdover = 0)

theorem phaseInv_iff : PhaseInv s ↔ PruWithin s.store.setup.phase.fNom s.pru := Iff.rfl

/-- The nominal period lies between the limits (R1). -/
theorem pMin_le_pNom (fNom : Nat) : pMin fNom ≤ pNom fNom := by
  unfold pMin
  omega

theorem pNom_le_pMax (fNom : Nat) : pNom fNom ≤ pMax fNom := by
  unfold pMax
  omega

theorem restartPru_within (fNom : Nat) : PruWithin fNom (restartPru fNom) :=
  ⟨pMin_le_pNom fNom, pNom_le_pMax fNom, by simp [restartPru], by simp [restartPru], by simp [restartPru],
    fun _ => ⟨rfl, rfl, rfl, rfl⟩⟩

/-- A prediction is made in every state but UNLOCKED, and it changes nothing else (R4). -/
theorem makePrediction_within {fNom w : Nat} {u : Pru} (hl : u.lock ≠ .unlocked) (h1 : pMin fNom ≤ u.p)
    (h2 : u.p ≤ pMax fNom) (h3 : u.k < 6) (h4 : u.distorted ≤ 65535) : PruWithin fNom (makePrediction w u) :=
  ⟨h1, h2, h3, h4, ⟨fun h => absurd h hl, fun h => by simp [makePrediction] at h⟩, fun h => absurd h hl⟩

/-- The corrected period lies within its limits (R5). -/
theorem clampInt_toNat_within {x : Int} {lo hi : Nat} (h : lo ≤ hi) :
    lo ≤ (clampInt x lo hi).toNat ∧ (clampInt x lo hi).toNat ≤ hi := by
  unfold clampInt
  split
  · omega
  · split <;> omega

/-- An accepted crossing steps the counts and may enter LOCKED; it leaves the rest (R13 to R15). -/
theorem lockOnAccept_leaves (g : Bool) {u : Pru} (hl : u.lock ≠ .unlocked) :
    (lockOnAccept g u).lock ≠ .unlocked ∧ (lockOnAccept g u).p = u.p ∧ (lockOnAccept g u).k = u.k ∧
      (lockOnAccept g u).distorted = u.distorted := by
  unfold lockOnAccept enterLocked
  split
  · split
    · split <;> simp_all
    · simp_all
  · simp_all
  · split <;> simp_all
  · contradiction

/-- An expiry steps the counts, or falls to UNLOCKED with all of them 0; it leaves the rest (R13 to R16). -/
theorem lockOnExpiry_leaves (n : Nat) {u : Pru} (hl : u.lock ≠ .unlocked) :
    lockOnExpiry n u = fallUnlocked u ∨
    ((lockOnExpiry n u).lock ≠ .unlocked ∧ (lockOnExpiry n u).p = u.p ∧ (lockOnExpiry n u).k = u.k ∧
      (lockOnExpiry n u).distorted = u.distorted) := by
  unfold lockOnExpiry
  split
  · split
    · exact .inl rfl
    · exact .inr (by simp_all)
  · split <;> exact .inr (by simp_all)
  · split
    · exact .inl rfl
    · exact .inr (by simp_all)
  · contradiction

theorem acceptCrossing_within {ph : PhaseValues} {q : Prediction} {e : Int} {u : Pru} (hl : u.lock ≠ .unlocked)
    (h : PruWithin ph.fNom u) : PruWithin ph.fNom (acceptCrossing ph q e u).1 := by
  obtain ⟨-, -, -, hd, -⟩ := h
  obtain ⟨h1, h2, h3, h4⟩ := lockOnAccept_leaves (decide (e.natAbs ≤ q.wp)) (u := correctReference ph q e u) hl
  have hp := clampInt_toNat_within (x := u.p + truncDiv (3 * e) 8)
    ((pMin_le_pNom ph.fNom).trans (pNom_le_pMax ph.fNom))
  refine makePrediction_within h1 (by rw [h2]; exact hp.1) (by rw [h2]; exact hp.2) ?_ (by rw [h4]; exact hd)
  rw [h3]
  exact Nat.mod_lt _ (by decide)

theorem takeExpiry_within {ph : PhaseValues} {q : Prediction} {u : Pru} (hl : u.lock ≠ .unlocked)
    (h : PruWithin ph.fNom u) : PruWithin ph.fNom (takeExpiry ph q u).1 := by
  obtain ⟨hlo, hhi, -, hd, -⟩ := h
  simp only [takeExpiry, predictIfLocked]
  obtain h0 | ⟨h1, h2, h3, h4⟩ := lockOnExpiry_leaves ph.holdoverLimit
    (u := { u with tRef := q.tPred, k := (u.k + 1) % 6, rn := u.rn + 1 }) hl
  · rw [h0, if_pos (show (fallUnlocked _).lock = .unlocked from rfl)]
    exact ⟨hlo, hhi, by simp [fallUnlocked], hd, by simp [fallUnlocked], fun _ => ⟨rfl, rfl, rfl, rfl⟩⟩
  · rw [if_neg h1]
    refine makePrediction_within h1 (by rw [h2]; exact hlo) (by rw [h2]; exact hhi) ?_ (by rw [h4]; exact hd)
    rw [h3]
    exact Nat.mod_lt _ (by decide)

theorem countDistorted_within {fNom : Nat} {u : Pru} (h : PruWithin fNom u) : PruWithin fNom (countDistorted u) := by
  obtain ⟨h1, h2, h3, -, h5, h6⟩ := h
  exact ⟨h1, h2, h3, Nat.min_le_left _ _, h5, h6⟩

theorem pruCrossing_within {ph : PhaseValues} {kind n : Nat} {u : Pru} (h : PruWithin ph.fNom u) :
    PruWithin ph.fNom (pruCrossing ph kind n u).1 := by
  unfold pruCrossing
  split
  · dsimp only
    split
    · exact makePrediction_within nofun (pMin_le_pNom _) (pNom_le_pMax _) (by simp) h.2.2.2.1
    · exact h
  · rename_i hl
    split
    · dsimp only
      split
      · exact acceptCrossing_within (fun hc => hl hc) h
      · exact countDistorted_within h
    · exact countDistorted_within h
  · exact countDistorted_within h

theorem takeArmedExpiry_phase (h : PhaseInv s) : PhaseInv (takeArmedExpiry s) := by
  unfold takeArmedExpiry
  split
  · rename_i q hq
    have hl : s.pru.lock ≠ .unlocked := by
      obtain ⟨-, -, -, -, hpred, -⟩ := h
      intro hl
      rw [hpred.mp hl] at hq
      cases hq
    rw [phaseInv_iff, afterPru_store, afterPru_pru]
    exact takeExpiry_within hl h
  · exact h

theorem takeCrossing_phase (kind lag : Nat) (h : PhaseInv s) : PhaseInv (takeCrossing kind lag s) := by
  unfold takeCrossing
  rw [phaseInv_iff, afterPru_store, afterPru_pru]
  exact pruCrossing_within h

theorem PhaseInv.congr (h : PhaseInv s) (hp : t.pru = s.pru) (hs : t.store.setup.phase = s.store.setup.phase) :
    PhaseInv t := by
  rw [phaseInv_iff] at *
  rwa [hp, hs]

theorem Effect.phase (h : Effect s t) : PhaseInv s → PhaseInv t := by
  induction h with
  | trans _ _ h1 h2 => exact fun h => h2 (h1 h)
  | outside hpru _ _ _ _ hstore => exact fun h => h.congr hpru (by rw [hstore])
  | powerOn => exact fun _ => restartPru_within 50
  | setupBegin s =>
    intro h
    rw [phaseInv_iff] at *
    by_cases hf : s.store.setup.phase.fNom = 50
    · rw [hf] at h
      simpa [setupBegun, hf, defaultSetup, Config.defaultPhase] using h
    · simpa [setupBegun, hf, defaultSetup, Config.defaultPhase] using restartPru_within 50
  | setupPhase v s => exact fun _ => restartPru_within v.fNom
  | setupGuard v n s => exact fun h => h.congr (by simp [putGuard]) (by simp [putGuard, withStep, withSetup])
  | setupLevels v s => exact fun h => h.congr (by simp [putLevels]) (by simp [putLevels, withStep, withSetup])
  | bypass s => exact fun h => h.congr (by simp [inConvState, bypassFired]) (by simp [inConvState, bypassFired])
  | restartPhase s => exact fun _ => restartPru_within _
  | restart s => exact fun _ => restartPru_within _
  | crossing kind lag => exact fun h => (takeCrossing_phase kind lag h).congr (by simp) (by simp)
  | armedExpiry => exact fun h => (takeArmedExpiry_phase h).congr (by simp) (by simp)
  | firing => exact fun h => h.congr (by simp) (by simp)
  | _ => exact id

/-- Settles O57: each effect keeps the PRU within its limits. -/
theorem stepKeepsThePhase : Obligations.StepKeepsThePhase :=
  fun _ _ hs h => (effect_of_step h).phase hs

/-! ### The Table Store and the levels -/

/-- A table whose entries all lie in 0..9,000 (R144). -/
def TableWithin (table : Vector TableRow 33) : Prop := ∀ row ∈ table.toList, ∀ e ∈ row.entries.toList, e ≤ 9000

/-- A map that names each valve of a bridge once (R145). -/
def MapsWithin (y d : Vector Valve 6) : Prop :=
  (y.toList.map valveNumber).Perm [1, 2, 3, 4, 5, 6] ∧ (d.toList.map valveNumber).Perm [7, 8, 9, 10, 11, 12]

theorem storeInv_iff : StoreInv s ↔ setupInRange s.store.setup = true ∧ s.store.step ≤ 5 ∧
    (∀ v : Valve, s.monitors[v].levels.length = s.store.setup.levels.nL) ∧
    TableWithin s.store.table ∧ MapsWithin s.store.yMap s.store.dMap := Iff.rfl

theorem StoreInv.congr (h : StoreInv s) (hs : t.store = s.store)
    (hm : ∀ v : Valve, t.monitors[v].levels.length = s.monitors[v].levels.length) : StoreInv t := by
  unfold StoreInv at *
  simp only [hs, hm]
  exact h

/-- Setup values in range, with their levels formed, on the tables that stand. -/
theorem StoreInv.setup (h : StoreInv s) (hr : setupInRange t.store.setup = true) (hstep : t.store.step ≤ 5)
    (hm : ∀ v : Valve, t.monitors[v].levels.length = t.store.setup.levels.nL) (ht : t.store.table = s.store.table)
    (hy : t.store.yMap = s.store.yMap) (hd : t.store.dMap = s.store.dMap) : StoreInv t := by
  obtain ⟨-, -, -, h4, h5, h6⟩ := h
  exact ⟨hr, hstep, hm, ht ▸ h4, hy ▸ h5, hd ▸ h6⟩

theorem setupInRange_iff (v : Setup) : setupInRange v = true ↔
    phaseInRange v.phase = true ∧ anglesInRange v.angles = true ∧ guardInRange v.guard = true ∧
      levelsInRange v.levels = true := by
  simp [setupInRange, and_assoc]

/-- A row written with entries in range leaves the table in range (R144). -/
theorem writeRow_within {table : Vector TableRow 33} (h : TableWithin table) (row : Nat) {entries : Vector Nat 8}
    (he : ∀ e ∈ entries.toList, e ≤ 9000) : TableWithin (table.setIfInBounds row ⟨true, entries⟩) := by
  intro r hr e
  rw [Vector.mem_toList_iff, Vector.mem_iff_getElem] at hr
  obtain ⟨i, hi, rfl⟩ := hr
  rw [Vector.getElem_setIfInBounds]
  split
  · exact he e
  · exact h _ (by simp) e

/-- The valve of a number 1 to 12 has that number. -/
theorem valveNumber_valveOfNumber {n : Nat} (h1 : 1 ≤ n) (h2 : n ≤ 12) : valveNumber (valveOfNumber n) = n := by
  simp only [valveNumber, valveOfNumber, Fin.ofNat]
  omega

/-- A list of six numbers in which each of six different numbers stands once is a rearrangement of them. -/
theorem perm_of_count_eq_one {l m : List Nat} (hl : l.length = m.length) (hm : m.Nodup) (h : ∀ n ∈ m, l.count n = 1) :
    l.Perm m := by
  have hsub : m.Subperm l := hm.subperm fun n hn => List.count_pos_iff.mp (by rw [h n hn]; decide)
  exact (hsub.perm_of_length_le hl.le).symm

/-- A map in range, as held, names each valve of a bridge once (R145). -/
theorem writeMap_within {y d : Vector Nat 6} (h : mapInRange y d = true) :
    MapsWithin (y.map valveOfNumber) (d.map valveOfNumber) := by
  have bridge : ∀ (x : Vector Nat 6) (m : List Nat), m.length = 6 → m.Nodup → (∀ n ∈ m, 1 ≤ n ∧ n ≤ 12) →
      (∀ n ∈ m, x.toList.count n = 1) → ((x.map valveOfNumber).toList.map valveNumber).Perm m := by
    intro x m hlen hnd hr hc
    have hp : x.toList.Perm m := perm_of_count_eq_one (by simp [hlen]) hnd hc
    have hid : x.toList.map (valveNumber ∘ valveOfNumber) = x.toList := by
      refine (List.map_congr_left fun n hn => ?_).trans (List.map_id _)
      exact valveNumber_valveOfNumber (hr n (hp.mem_iff.mp hn)).1 (hr n (hp.mem_iff.mp hn)).2
    rwa [Vector.toList_map, List.map_map, hid]
  simp only [mapInRange, Bool.and_eq_true, List.all_eq_true, beq_iff_eq] at h
  exact ⟨bridge y _ rfl (by decide) (by decide) h.1, bridge d _ rfl (by decide) (by decide) h.2⟩

/-- The store and the levels as power-on leaves them lie in their ranges (R150, R96). -/
theorem storeInv_reset : StoreInv State.reset := by
  refine ⟨by decide, by decide, fun v => ?_, fun row hrow e he => ?_, by decide, by decide⟩
  · simp [State.reset, defaultSetup, Config.defaultLevels]
  · have hr : row = ⟨false, Vector.replicate 8 0⟩ := by simpa [State.reset] using hrow
    subst hr
    have h0 : e = 0 := by simpa using he
    omega

/-- The levels as formed at a change of N_L, and otherwise as they stand (R91). -/
theorem formOnChange_length {n : Nat} (h : ∀ v : Valve, s.monitors[v].levels.length = n) (v : Valve) :
    (formOnChange n s).monitors[v].levels.length = s.store.setup.levels.nL := by
  rw [formOnChange_eq]
  dsimp only
  split
  · rename_i hn
    rw [h v, hn]
  · simp

theorem Effect.store (h : Effect s t) : StoreInv s → StoreInv t := by
  induction h with
  | trans _ _ h1 h2 => exact fun h => h2 (h1 h)
  | outside _ _ _ hmon _ hstore => exact fun h => h.congr hstore fun v => by rw [hmon]
  | powerOn => exact fun _ => storeInv_reset.congr rfl fun _ => rfl
  | abandon => exact fun h => h.setup h.1 (Nat.zero_le _) h.2.2.1 rfl rfl rfl
  | monitors m s hm => exact fun h => h.congr rfl hm
  | setupBegin s =>
    refine fun h => h.setup (by decide : setupInRange defaultSetup = true) (by decide : (1 : Nat) ≤ 5) (fun v => ?_) rfl rfl rfl
    have hlen := h.2.2.1 v
    by_cases hn : s.store.setup.levels.nL = 96
    · simpa [setupBegun, hn, defaultSetup, Config.defaultLevels] using hlen
    · simp [setupBegun, hn, defaultSetup, Config.defaultLevels]
  | setupPhase v s _ hv =>
    intro h
    obtain ⟨-, ha, hg, hl⟩ := (setupInRange_iff _).mp h.1
    exact h.setup ((setupInRange_iff _).mpr ⟨hv, ha, hg, hl⟩) (by decide : (2 : Nat) ≤ 5) h.2.2.1 rfl rfl rfl
  | setupAngles role v s _ hv =>
    intro h
    obtain ⟨hp, -, hg, hl⟩ := (setupInRange_iff _).mp h.1
    exact h.setup ((setupInRange_iff _).mpr ⟨hp, hv, hg, hl⟩) (by decide : (3 : Nat) ≤ 5) h.2.2.1 rfl rfl rfl
  | setupGuard v n s _ hv =>
    intro h
    obtain ⟨hp, ha, -, hl⟩ := (setupInRange_iff _).mp h.1
    have hstore : (withStep 4 (putGuard v n s)).store =
        { s.store with setup := { s.store.setup with guard := v, nesting := n }, step := 4 } := by
      simp [putGuard, withStep, withSetup]
    refine h.setup ?_ ?_ (fun w => ?_) ?_ ?_ ?_ <;> rw [hstore]
    · exact (setupInRange_iff _).mpr ⟨hp, ha, hv, hl⟩
    · exact (by decide : (4 : Nat) ≤ 5)
    · simpa [putGuard] using h.2.2.1 w
  | setupLevels v s _ hv =>
    intro h
    obtain ⟨hp, ha, hg, -⟩ := (setupInRange_iff _).mp h.1
    have hstore : (withStep 5 (putLevels v s)).store =
        { s.store with setup := { s.store.setup with levels := v }, step := 5 } := by
      simp [putLevels, withStep, withSetup]
    refine h.setup ?_ ?_ (fun w => ?_) ?_ ?_ ?_ <;> rw [hstore]
    · exact (setupInRange_iff _).mpr ⟨hp, ha, hg, hv⟩
    · exact formOnChange_length (s := withSetup { s.store.setup with levels := v } s) h.2.2.1 w
  | setupEnd => exact fun h => h.setup h.1 (Nat.zero_le _) h.2.2.1 rfl rfl rfl
  | tableWrite row entries s he =>
    intro h
    obtain ⟨h1, h2, h3, h4, h5⟩ := h
    exact ⟨h1, h2, h3, writeRow_within h4 row he, h5⟩
  | mapWrite y d s _ hmap =>
    intro h
    obtain ⟨h1, h2, h3, h4, -⟩ := h
    exact ⟨h1, h2, h3, h4, writeMap_within hmap⟩
  | mapLock => exact fun h => h
  | precheck s => exact fun h => h.congr rfl fun v => by simp [precheckState]
  | deblockBypass s => exact fun h => h.congr rfl fun v => by simp [runningState]
  | ready s => exact fun h => h.congr rfl fun v => by simp [runningState]
  | bypass s =>
    exact fun h => h.congr (by simp [inConvState, bypassFired]) fun v => by simp [inConvState, bypassFired]
  | testStart a n s => exact fun h => h.congr rfl fun v => by simp [testingState, beginTest]
  | testResume s => exact fun h => h.congr rfl fun v => by simp [testingState]
  | restart s => exact fun h => h.setup h.1 (Nat.zero_le _) (fun v => by simpa [restartPart, restartMonitor] using h.2.2.1 v) rfl rfl rfl
  | crossing kind lag s => exact fun h => h.congr (by simp [takeCrossing]) fun v => by simp [takeCrossing]
  | armedExpiry s => exact fun h => h.congr (by simp) fun v => by simp
  | firing s => exact fun h => h.congr (by simp) fun v => by simp
  | _ => exact fun h => h.congr rfl fun _ => rfl

/-- Settles O59: each effect keeps the ranges. -/
theorem stepKeepsTheStore : Obligations.StepKeepsTheStore :=
  fun _ _ hs h => (effect_of_step h).store hs

end Sys2Proof.Machine


/-! PROOF. The port's queues and the ring within their capacities (R163, R166, R56), with the reply that every taken request
places first. -/

namespace Sys2Proof.Machine

variable {s t : State}

/-! ### The ring -/

theorem pushRing_length_le (r : FiringRecord) (l : List FiringRecord) : (pushRing r l).length ≤ 64 := by
  simp [pushRing, Config.ringCapacity]

/-- The ring within its capacity (R56). -/
def RingInv (s : State) : Prop := s.cal.ring.length ≤ 64

theorem RingInv.congr (h : RingInv s) (hr : t.cal.ring = s.cal.ring) : RingInv t := by
  unfold RingInv at *
  rwa [hr]

theorem fireOrder_ring (o : Order) (s : State) : RingInv (fireOrder o s) := by
  unfold RingInv
  rw [fireOrder_cal]
  exact pushRing_length_le _ _

theorem fireStanding_ring (v : Valve) (h : RingInv s) : RingInv (fireStanding v s) := by
  unfold fireStanding
  split
  · exact fireOrder_ring _ _
  · exact h

theorem takeOrder_ring (o : Order) (h : RingInv s) : RingInv (takeOrder o s) := by
  simp only [takeOrder]
  split
  · exact fireOrder_ring _ _
  · exact fireStanding_ring o.valve (s := { s with cal := { s.cal with created := s.cal.created + 1 } }) h

theorem fireFirst_ring (h : RingInv s) : RingInv (fireFirst s) := by
  unfold fireFirst
  split
  · exact fireOrder_ring _ _
  · exact h

theorem bypassFired_ring (s : State) : RingInv (bypassFired s) := by
  simp only [bypassFired, bypassFirings, List.foldl]
  exact fireOrder_ring _ _

theorem Effect.ring (h : Effect s t) : RingInv s → RingInv t := by
  induction h with
  | trans _ _ h1 h2 => exact fun h => h2 (h1 h)
  | outside _ hcal => exact fun h => h.congr (by rw [hcal])
  | powerOn => exact fun _ => Nat.zero_le _
  | setupGuard v n s => exact fun h => h.congr (by simp [putGuard])
  | setupLevels v s => exact fun h => h.congr (by simp [putLevels])
  | bypass s => exact fun _ => bypassFired_ring s
  | restart => exact fun _ => Nat.zero_le _
  | crossing kind lag s =>
    exact fun h => RingInv.congr (takeCrossing_keeps (I := RingInv) (fun _ _ h => h) (fun _ _ h => h)
      (fun o _ _ _ h => takeOrder_ring o h) kind lag h) (endTestRun_cal_ring _)
  | armedExpiry s =>
    exact fun h => RingInv.congr (takeArmedExpiry_keeps (I := RingInv) (fun _ _ h => h) (fun _ _ h => h)
      (fun o _ _ _ h => takeOrder_ring o h) h) (endTestRun_cal_ring _)
  | firing s => exact fun h => (fireFirst_ring h).congr (endTestRun_cal_ring _)
  | _ => exact id

/-! ### The port -/

/-- An operation that leaves the request queue, and adds to the outgoing list at most notices (R166). -/
def PortKept (s t : State) : Prop := t.port.requests = s.port.requests ∧ Grows s t

theorem PortKept.refl (s : State) : PortKept s s := ⟨rfl, .refl s⟩

theorem PortKept.trans {a b c : State} (h : PortKept a b) (k : PortKept b c) : PortKept a c :=
  ⟨k.1.trans h.1, h.2.trans k.2⟩

theorem PortKept.after {u : State} (k : PortKept u t) (h : u.port = s.port) : PortKept s t :=
  ⟨k.1.trans (by rw [h]), k.2.after h⟩

theorem PortKept.of_port (h : t.port = s.port) : PortKept s t := ⟨by rw [h], .of_eq (by rw [h])⟩

theorem changeState_port (c : ConvState) (u : StateCause) (v : Option Valve) (s : State) :
    PortKept s (changeState c u v s) := ⟨by simp, changeState_grows ..⟩

theorem endSource_port (src : Source) (c : EndCause) (s : State) : PortKept s (endSource src c s) :=
  ⟨by simp, endSource_grows ..⟩

theorem enterBlocked_port (u : StateCause) (v : Option Valve) (s : State) : PortKept s (enterBlocked u v s) :=
  ⟨by simp, enterBlocked_grows ..⟩

theorem enterRunning_port (u : StateCause) (s : State) : PortKept s (enterRunning u s) :=
  ⟨by simp, enterRunning_grows ..⟩

theorem enterTesting_port (u : StateCause) (s : State) : PortKept s (enterTesting u s) :=
  ⟨by simp, enterTesting_grows ..⟩

theorem settle_port (s : State) : PortKept s (settle s) := ⟨by simp, settle_grows s⟩

theorem raiseCommutationFail_port (s : State) : (raiseCommutationFail s).port = s.port := by
  simp only [raiseCommutationFail]
  split
  · rw [raiseEdge_port]
    exact raiseEdge_port s _
  · exact raiseEdge_port s _

/-! ### A taken request places its reply first -/

/-- The rule of a request places one reply and then at most notices, and leaves the request queue. -/
def Replies (s t : State) : Prop := ∃ rec, PortKept (appendRecord rec s) t

theorem Replies.append {rec : OutRecord} (h : t.port = (appendRecord rec s).port) : Replies s t := ⟨rec, .of_port h⟩

theorem Replies.refuse (k : RequestKind) (tag : Nat) (c : Completion) (s : State) : Replies s (refuse k tag c s) :=
  .append rfl

theorem Replies.accepted {k : RequestKind} {tag : Nat} (h : PortKept (accept k tag s) t) : Replies s t := ⟨_, h⟩

theorem refuseRecord_replies (k : RequestKind) (tag : Nat) (c : Completion) (s : State) :
    Replies s (refuseRecord k tag c s) := by
  unfold refuseRecord
  split <;> exact .append rfl

theorem takeRecord_replies {k : RequestKind} {tag n : Nat} {r : Bool} {put : State → State}
    (h : ∀ u, (put u).port = u.port) (s : State) : Replies s (takeRecord k tag (recordRefusal n r s) put s) := by
  unfold takeRecord
  split
  · exact refuseRecord_replies ..
  · exact .accepted (.of_port (h _))

theorem loadDefaults_port (s : State) : (loadDefaults s).port = s.port := by
  simp only [loadDefaults, formOnChange_port, resortOnNesting_port, followBoost_port]
  split <;> rfl

theorem beginSetup_port (s : State) : PortKept s (beginSetup s) := by
  have loaded : PortKept s (loadDefaults s) := .of_port (loadDefaults_port s)
  have changed : PortKept s (if (loadDefaults s).ctl.state = .blocked
      then changeState .unconfigured .setupBegin none (loadDefaults s) else loadDefaults s) := by
    split
    · exact loaded.trans (changeState_port ..)
    · exact loaded
  exact changed.trans (.of_port rfl)

theorem endSetup_port (s : State) : PortKept s (endSetup s) := by
  simp only [endSetup]
  split
  · exact PortKept.after (changeState_port ..) rfl
  · exact .of_port rfl

/-- Every request is answered by one reply, before any notice of its event (R164, R165). -/
theorem takeRequest_replies (tag : Nat) (r : Request) (s : State) : Replies s (takeRequest tag r s) := by
  cases r with
  | setupBegin =>
    simp only [takeRequest, takeSetupBegin]
    split
    · exact refuseRecord_replies ..
    · exact .accepted (beginSetup_port _)
  | setupPhase v => exact takeRecord_replies (put := putPhase v) (fun _ => rfl) s
  | setupAngles role v => exact takeRecord_replies (put := putAngles (role.getD .rectifier) v) (fun _ => rfl) s
  | setupGuard v nesting => exact takeRecord_replies (fun _ => by simp [putGuard]) s
  | setupLevels v => exact takeRecord_replies (fun _ => by simp [putLevels]) s
  | setupEnd =>
    simp only [takeRequest, takeSetupEnd]
    split
    · exact refuseRecord_replies ..
    · exact .accepted (endSetup_port _)
  | tableWrite row entries =>
    simp only [takeRequest, takeTableWrite]
    repeat' split
    all_goals exact .append rfl
  | tableRead sel =>
    simp only [takeRequest, takeTableRead]
    split <;> exact .append rfl
  | mapWrite y d =>
    simp only [takeRequest, takeMapWrite]
    repeat' split
    all_goals exact .append rfl
  | mapLock =>
    simp only [takeRequest, takeMapLock]
    split <;> exact .append rfl
  | deblock tg mg =>
    simp only [takeRequest, takeDeblock, checked]
    repeat' split
    · exact .refuse ..
    · exact .refuse ..
    · exact .accepted ⟨by simp, enterPrecheck_grows _⟩
    · exact .refuse ..
    · exact .refuse ..
    · exact .accepted (PortKept.after (enterRunning_port _ _) rfl)
    · exact .refuse ..
  | block =>
    simp only [takeRequest, takeBlock]
    split
    · exact .refuse ..
    · exact .append rfl
    · exact .accepted (enterBlocked_port ..)
  | bypass =>
    simp only [takeRequest, takeBypass]
    split
    · exact .accepted ⟨by simp, enterBypass_grows ..⟩
    · exact .refuse ..
  | testStart a c tg mg =>
    simp only [takeRequest, takeTestStart, checked]
    repeat' split
    · exact .refuse ..
    · exact .refuse ..
    · exact .accepted (PortKept.after (enterTesting_port _ _) rfl)
    · exact .refuse ..
  | testSuspend =>
    simp only [takeRequest, takeTestSuspend]
    split
    · exact .accepted ⟨by simp, enterTestHeld_grows _⟩
    · exact .refuse ..
  | testResume =>
    simp only [takeRequest, takeTestResume]
    repeat' split
    · exact .refuse ..
    · exact .accepted (enterTesting_port ..)
    · exact .refuse ..
  | angleOrder a =>
    simp only [takeRequest, takeAngleOrder]
    split <;> exact .append rfl
  | phaseRestart =>
    simp only [takeRequest, takePhaseRestart]
    split <;> exact .append rfl
  | restart =>
    simp only [takeRequest, takeRestart]
    split
    · exact .accepted ⟨rfl, .of_eq rfl⟩
    · exact .refuse ..
  | protMask l =>
    simp only [takeRequest, takeProtMask]
    split <;> exact .append rfl
  | protEnd n =>
    simp only [takeRequest, takeProtEnd]
    repeat' split
    · exact .refuse ..
    · exact .refuse ..
    · exact .refuse ..
    · exact .accepted (endSource_port ..)
  | protEndTop =>
    simp only [takeRequest, takeProtEndTop]
    repeat' split
    · exact .refuse ..
    · exact .refuse ..
    · exact ⟨_, endSource_port ..⟩
  | protStatus => exact .append rfl
  | levelLatch =>
    simp only [takeRequest, takeLevelLatch]
    split <;> exact .append rfl
  | levelRead v f =>
    simp only [takeRequest, takeLevelRead]
    repeat' split
    all_goals exact .append rfl
  | levelFind v l states =>
    simp only [takeRequest, takeLevelFind]
    repeat' split
    all_goals exact .append rfl
  | levelRelease => exact .append rfl
  | levelClear v l =>
    simp only [takeRequest, takeLevelClear]
    repeat' split
    all_goals exact .append rfl
  | levelExclude v l =>
    simp only [takeRequest, takeLevelExclude]
    repeat' split
    all_goals exact .append rfl
  | status => exact ⟨_, rfl, .of_eq rfl⟩
  | historyRead o =>
    simp only [takeRequest, takeHistoryRead]
    split <;> exact .append rfl

/-! ### Events -/

/-- What an event leaves of the port, before its close: a reply where the list holds 16 records or fewer, or notices. -/
def PortWithin (s : State) : Prop := s.port.requests.length ≤ 8 ∧ s.port.outgoing.length ≤ 32

theorem PortWithin.kept (h : PortWithin s) (k : PortKept s t) : PortWithin t :=
  ⟨by rw [k.1]; exact h.1, k.2.2 h.2⟩

theorem PortWithin.replied (h : PortWithin s) (hlen : s.port.outgoing.length ≤ 16) (k : Replies s t) : PortWithin t := by
  obtain ⟨rec, k⟩ := k
  refine PortWithin.kept (s := appendRecord rec s) ⟨h.1, ?_⟩ k
  simp [appendRecord]
  omega

/-- What a taken request finds: the frame out of the queue, and the same outgoing list. -/
theorem takenEffects_popped_port (k : RequestKind) (s : State) :
    (takenEffects k (popped s)).port.requests = s.port.requests.tail ∧
      (takenEffects k (popped s)).port.outgoing = s.port.outgoing := by
  simp only [takenEffects]
  repeat' split
  all_goals exact ⟨rfl, rfl⟩

theorem takenEffects_popped_within (k : RequestKind) (h : PortWithin s) : PortWithin (takenEffects k (popped s)) := by
  obtain ⟨h1, h2⟩ := takenEffects_popped_port k s
  unfold PortWithin
  rw [h1, h2, List.length_tail]
  exact ⟨(Nat.sub_le _ _).trans h.1, h.2⟩

/-- A frame joins the queue only where there is room (R163). -/
theorem enqueue_within (f : ControlFrame) (h : PortWithin s) : PortWithin (enqueue f s) := by
  unfold enqueue
  split
  · rename_i hlt
    refine ⟨?_, h.2⟩
    simp only [List.length_append, List.length_singleton]
    exact hlt
  · exact h

theorem endTestRun_port (s : State) : PortKept s (endTestRun s) := by
  unfold endTestRun
  split
  · exact PortKept.after (enterBlocked_port ..) rfl
  · exact .refl s

/-- Neither the ACU nor the calendar writes the port. -/
theorem afterPru_port (r : Pru × Option RefPoint) (s : State) : (afterPru r s).port = s.port :=
  afterPru_frame State.port (fun _ _ => rfl) (fun o s => takeOrder_port s o) r s

theorem takeArmedExpiry_port (s : State) : (takeArmedExpiry s).port = s.port := by
  unfold takeArmedExpiry
  split
  · exact afterPru_port _ s
  · rfl

theorem fireFirst_port (s : State) : (fireFirst s).port = s.port := by
  unfold fireFirst
  split <;> simp

theorem probeAnswer_port (v : Valve) (nv : Bool) (s : State) : PortKept s (probeAnswer v nv s) := by
  simp only [probeAnswer]
  repeat' split
  · exact .refl s
  · exact enterBlocked_port ..
  · exact enterBlocked_port ..
  · exact PortKept.after (enterRunning_port _ _) rfl
  · exact .of_port rfl

theorem processReturn_port (v : Valve) (r : ReturnRecord) (s : State) : PortKept s (processReturn v r s) := by
  have tested : ∀ nv u, (testCommutation v r nv u).port = u.port := by
    intro nv u
    unfold testCommutation
    repeat' split
    · rfl
    · exact raiseCommutationFail_port u
    · rfl
    · rfl
  have classified : ∀ u, (classifyValve v r u).port = u.port := by
    intro u
    simp only [classifyValve]
    split
    · exact raiseEdge_port ..
    · rfl
  have judged : ∀ (nv : Bool) u, (if nv then u else classifyValve v r u).port = u.port := by
    intro nv u
    cases nv with
    | true => rfl
    | false => exact classified u
  have whole : PortKept s (if noVoltage v r s then testCommutation v r (noVoltage v r s) (markAccepted v s)
      else classifyValve v r (testCommutation v r (noVoltage v r s) (markAccepted v s))) :=
    .of_port ((judged _ _).trans (tested _ _))
  simp only [processReturn]
  split
  · exact whole.trans (probeAnswer_port ..)
  · exact whole

theorem refireValve_port (v : Valve) (s : State) : (refireValve v s).port = s.port := by
  simp only [refireValve]
  split
  · exact raiseEdge_port ..
  · rfl

theorem acceptSample_port (seq : Nat) (id : Int) (uac : Nat) (s : State) : (acceptSample seq id uac s).port = s.port := by
  simp [acceptSample, testVoltage]
  split <;> simp [holdSample]

/-- Every event keeps the port within its capacities before its close. -/
theorem Event.body_port (e : Event) (s : State) (hr : e.Ready s) (h : PortWithin s) : PortWithin (e.body s) := by
  cases e with
  | request tag r =>
    refine (takenEffects_popped_within _ h).replied ?_ (takeRequest_replies tag r _)
    rw [(takenEffects_popped_port _ s).2]
    exact hr
  | badLength tag k =>
    refine (takenEffects_popped_within _ h).replied ?_ (.append rfl)
    rw [(takenEffects_popped_port _ s).2]
    exact hr
  | unknownKind tag code =>
    refine PortWithin.replied (s := popped s) ⟨?_, h.2⟩ hr (t := takeUnknown tag code s) (.append rfl)
    simpa [popped] using Nat.le_succ_of_le h.1
  | controlFrame f => exact enqueue_within f (s := touchLink s) h
  | crossing kind lag => exact h.kept (PortKept.trans (.of_port (afterPru_port _ s)) (endTestRun_port _))
  | sample seq id uac => exact h.kept (.of_port (acceptSample_port seq id uac s))
  | returnRecord line r => exact h.kept (processReturn_port line r s)
  | reappear line => exact h.kept (.of_port (refireValve_port line s))
  | armedExpiry => exact h.kept (PortKept.trans (.of_port (takeArmedExpiry_port s)) (endTestRun_port _))
  | firing => exact h.kept (PortKept.trans (.of_port (fireFirst_port s)) (endTestRun_port _))
  | cfpHoldExpiry => exact h
  | actionTimerExpiry src => exact h.kept (endSource_port ..)
  | runWindowExpiry => exact h
  | precheckTimerExpiry =>
    change PortWithin (precheckTimeout s)
    unfold precheckTimeout
    split
    · exact h.kept (enterBlocked_port ..)
    · exact h
  | retardTimerExpiry =>
    change PortWithin (retardTimeout s)
    unfold retardTimeout
    split
    · exact h.kept (enterBlocked_port ..)
    · exact h
  | staleTimerExpiry => exact h
  | linkTimerExpiry => exact h
  | orderTimerExpiry => exact h

theorem portWithin_kept : Kept PortWithin where
  powerOn q := ⟨Nat.zero_le _, Nat.zero_le _⟩
  event e s hr h := (e.body_port s hr h).kept (settle_port _)
  time _ _ h := h
  pending _ _ h := h
  receivers _ _ h := h
  sent s h := ⟨h.1, by simpa [dropSent] using Nat.le_succ_of_le h.2⟩
  repeatPulse _ _ _ _ h := h
  trainEnd _ _ h := h

/-- Settles O58: the port by its moves, the ring by the effects. -/
theorem stepKeepsTheQueues : Obligations.StepKeepsTheQueues := by
  intro s t hs h
  obtain ⟨hreq, hout, hring⟩ := hs
  obtain ⟨hreq', hout'⟩ := portWithin_kept.step ⟨hreq, hout⟩ h
  exact ⟨hreq', hout', (effect_of_step h).ring hring⟩

end Sys2Proof.Machine


/-! PROOF. What the resolver's operations do to the positions of the sources: one rule for each operation (R99 to R103, R106,
R109). -/

namespace Sys2Proof.Machine

variable {s t : State}

/-! ### Sources -/

theorem mem_allSources (src : Source) : src ∈ allSources := by cases src <;> decide

theorem sourceNumber_inj {a b : Source} (h : sourceNumber a = sourceNumber b) : a = b := by
  revert h
  cases a <;> cases b <;> decide

theorem isInAction_iff {src : Source} : isInAction s src = true ↔ src ∈ s.prot.inAction.map (·.source) := by
  simp [isInAction]

theorem isInAction_congr (h : t.prot.inAction = s.prot.inAction) (src : Source) : isInAction t src = isInAction s src := by
  rw [isInAction, h, isInAction]

theorem isPending_congr (h : t.prot.waiting = s.prot.waiting) (src : Source) : isPending t src = isPending s src := by
  rw [isPending, h, isPending]

/-! ### Pending -/

@[simp] theorem isPending_makePending (a b : Source) (s : State) :
    isPending (makePending a s) b = if a = b then true else isPending s b := hasSource_putSource ..

@[simp] theorem isPending_withdraw (a b : Source) (s : State) :
    isPending (withdraw a s) b = if a = b then false else isPending s b := hasSource_putSource ..

@[simp] theorem isInAction_makePending (a b : Source) (s : State) : isInAction (makePending a s) b = isInAction s b := rfl

@[simp] theorem isInAction_withdraw (a b : Source) (s : State) : isInAction (withdraw a s) b = isInAction s b := rfl

@[simp] theorem isPending_notify (r : OutRecord) (b : Source) (s : State) : isPending (notify r s) b = isPending s b :=
  isPending_congr (by simp) b

@[simp] theorem isInAction_notify (r : OutRecord) (b : Source) (s : State) :
    isInAction (notify r s) b = isInAction s b := isInAction_congr (by simp) b

/-! ### Ends (R109) -/

/-- An end brings its source back to PENDING: an edge source by its repeat mark, a condition source by its condition (R109). -/
def returnsPending (src : Source) (s : State) : Bool :=
  (isEdgeSource src && hasSource s.prot.repeats src) || conditionHolds s src

/-- The resolver after an end (R109). -/
theorem endSource_prot (src : Source) (c : EndCause) (s : State) :
    (endSource src c s).prot = { setActionTimer src none s.prot with
      inAction := s.prot.inAction.filter fun a => decide (a.source ≠ src)
      tripLine := s.prot.tripLine && decide (src ≠ .valveTrip)
      repeats := if isEdgeSource src && hasSource s.prot.repeats src then putSource s.prot.repeats src false
        else s.prot.repeats
      waiting := if returnsPending src s then putSource s.prot.waiting src true else s.prot.waiting } := by
  have hcond : conditionHolds (notify (.noticeEnd src c s.now) (stopAction src s)) src = conditionHolds s src :=
    ((prot_same _ s).trans (notify_same _ _)).conditionHolds src
  unfold endSource placeEnded returnsPending
  rw [hcond]
  cases src <;> cases hr : hasSource s.prot.repeats _ <;> cases hc : conditionHolds s _ <;>
    simp_all [stopAction, setActionTimer, isEdgeSource, makePending]

@[simp] theorem isInAction_endSource (a b : Source) (c : EndCause) (s : State) :
    isInAction (endSource a c s) b = (isInAction s b && decide (b ≠ a)) := by
  rw [Bool.eq_iff_iff, isInAction_iff, endSource_prot]
  simp only [Bool.and_eq_true, isInAction_iff, List.mem_map, List.mem_filter, decide_eq_true_eq]
  constructor
  · rintro ⟨x, ⟨hx, hne⟩, rfl⟩
    exact ⟨⟨x, hx, rfl⟩, hne⟩
  · rintro ⟨⟨x, hx, rfl⟩, hne⟩
    exact ⟨x, ⟨hx, hne⟩, rfl⟩

@[simp] theorem isPending_endSource (a b : Source) (c : EndCause) (s : State) :
    isPending (endSource a c s) b = if a = b ∧ returnsPending a s = true then true else isPending s b := by
  rw [isPending, endSource_prot]
  dsimp only
  by_cases h : returnsPending a s = true
  · rw [if_pos h, hasSource_putSource]
    simp [h, isPending]
  · simp [h, isPending]

theorem endSource_masks (src : Source) (c : EndCause) (s : State) : (endSource src c s).prot.masks = s.prot.masks := by
  rw [endSource_prot]
  cases src <;> rfl

/-- Only an edge source's end touches its repeat mark (R109). -/
theorem endSource_repeats_of_condition {src : Source} (h : isEdgeSource src = false) (c : EndCause) (s : State) :
    (endSource src c s).prot.repeats = s.prot.repeats := by
  rw [endSource_prot]
  simp [h]

/-! ### Order between any two operations -/

/-- Each source in one position, NESTED actions in rising priority, and the trip line with VALVE_TRIP (R99, R103, R106). -/
def Orderly (s : State) : Prop := Placed s ∧ Rising s ∧ TripFollows s

/-- Order reads the positions, the trip line and the nesting mode alone. -/
theorem Orderly.congr (h : Orderly s) (hw : t.prot.waiting = s.prot.waiting) (ha : t.prot.inAction = s.prot.inAction)
    (ht : t.prot.tripLine = s.prot.tripLine) (hn : t.store.setup.nesting = s.store.setup.nesting) : Orderly t := by
  simpa only [Orderly, Placed, Rising, TripFollows, isPending, isInAction, hw, ha, ht, hn] using h

theorem Orderly.of_prot (h : Orderly s) (hp : t.prot = s.prot) (hn : t.store.setup.nesting = s.store.setup.nesting) :
    Orderly t := h.congr (by rw [hp]) (by rw [hp]) (by rw [hp]) hn

theorem Orderly.not_inAction (h : Orderly s) {src : Source} (hp : isPending s src = true) : isInAction s src = false := by
  have := h.1.1 src
  simpa [hp] using this

/-- A source that is not in action may become pending. -/
theorem Orderly.makePending (h : Orderly s) {src : Source} (hi : isInAction s src = false) :
    Orderly (makePending src s) := by
  obtain ⟨⟨hone, hnd⟩, hr, ht⟩ := h
  refine ⟨⟨fun b => ?_, hnd⟩, hr, ht⟩
  rw [isPending_makePending, isInAction_makePending]
  split
  · rename_i hab
    simp [← hab, hi]
  · exact hone b

theorem Orderly.withdraw (h : Orderly s) (src : Source) : Orderly (withdraw src s) := by
  obtain ⟨⟨hone, hnd⟩, hr, ht⟩ := h
  refine ⟨⟨fun b => ?_, hnd⟩, hr, ht⟩
  rw [isPending_withdraw, isInAction_withdraw]
  split
  · simp
  · exact hone b

theorem Orderly.notify (h : Orderly s) (r : OutRecord) : Orderly (notify r s) := h.of_prot (by simp) (by simp)

theorem Orderly.raiseEdge (h : Orderly s) (src : Source) : Orderly (raiseEdge src s) := by
  obtain ⟨-, heq⟩ | ⟨hi, heq⟩ := raiseEdge_cases s src
  · rw [heq]
    exact h.congr rfl rfl rfl rfl
  · rw [heq]
    exact h.makePending hi

theorem Orderly.raiseCommutationFail (h : Orderly s) : Orderly (raiseCommutationFail s) := by
  have edge := h.raiseEdge .commutationFail
  simp only [Machine.raiseCommutationFail]
  split
  · refine Orderly.raiseEdge ?_ _
    exact edge.congr rfl rfl rfl rfl
  · exact edge.congr rfl rfl rfl rfl

theorem Orderly.endSource (h : Orderly s) (src : Source) (c : EndCause) : Orderly (endSource src c s) := by
  obtain ⟨⟨hone, hnd⟩, hr, ht⟩ := h
  refine ⟨⟨fun b => ?_, ?_⟩, ?_, ?_⟩
  · rw [isPending_endSource, isInAction_endSource]
    have hb := hone b
    by_cases hbs : b = src
    · simp [hbs]
    · have hsb : src ≠ b := Ne.symm hbs
      simpa [hsb, hbs] using hb
  · rw [endSource_prot]
    exact hnd.sublist (List.filter_sublist.map _)
  · intro hn
    rw [endSource_store] at hn
    rw [endSource_prot]
    exact (hr hn).sublist (List.filter_sublist.map _)
  · unfold TripFollows at *
    rw [isInAction_endSource, ← ht, endSource_prot]
    simp only [ne_comm (a := src)]

/-! ### Conditions in step (R101) -/

/-- A re-reading of a condition source: the position of the other sources stands. -/
theorem isPending_rereadOne_of_ne {a b : Source} (h : a ≠ b) (s : State) : isPending (rereadOne a s) b = isPending s b := by
  unfold rereadOne
  repeat' split
  all_goals simp [h]

theorem isInAction_rereadOne_of_ne {a b : Source} (h : a ≠ b) (s : State) :
    isInAction (rereadOne a s) b = isInAction s b := by
  unfold rereadOne
  repeat' split
  all_goals simp [h.symm]

/-- One source is in step with its condition (R101). -/
def InStepAt (s : State) (src : Source) : Prop :=
  (conditionHolds s src = true → isPending s src = true ∨ isInAction s src = true) ∧
    (conditionHolds s src = false → isPending s src = false ∧ (isClearedSource src = true → isInAction s src = false))

theorem conditionHolds_rereadOne (a b : Source) (s : State) : conditionHolds (rereadOne a s) b = conditionHolds s b :=
  SameButResolver.conditionHolds (by rw [sameButResolver_iff]; simp) b

theorem isClearedSource_not_edge {src : Source} (h : isClearedSource src = true) : isEdgeSource src = false := by
  cases src <;> simp_all [isClearedSource, isEdgeSource]

theorem Orderly.rereadOne (h : Orderly s) (src : Source) : Orderly (rereadOne src s) := by
  unfold Machine.rereadOne
  split
  · split
    · exact h
    · rename_i hi
      exact h.makePending (by simpa using hi)
  · split
    · split
      · exact h.endSource _ _
      · exact h
    · exact h.withdraw src

/-- A re-reading brings its source in step. -/
theorem inStepAt_rereadOne (h : Orderly s) (src : Source) : InStepAt (rereadOne src s) src := by
  unfold InStepAt
  rw [conditionHolds_rereadOne]
  unfold Machine.rereadOne
  cases hc : conditionHolds s src with
  | true =>
    cases hi : isInAction s src with
    | true => simp [hi]
    | false => simp
  | false =>
    cases hi : isInAction s src with
    | true =>
      have hp : isPending s src = false := by
        have := h.1.1 src
        simpa [hi] using this
      cases hk : isClearedSource src with
      | true =>
        have hret : returnsPending src s = false := by
          simp [returnsPending, hc, isClearedSource_not_edge hk]
        simp [hret, hp]
      | false => simp [hp]
    | false => simp [hi]

theorem InStepAt.rereadOne {a b : Source} (h : InStepAt s b) (hab : a ≠ b) : InStepAt (rereadOne a s) b := by
  unfold InStepAt at *
  rwa [conditionHolds_rereadOne, isPending_rereadOne_of_ne hab, isInAction_rereadOne_of_ne hab]

theorem inStep_iff : InStep s ↔ ∀ src, isEdgeSource src = false → InStepAt s src := Iff.rfl

theorem Orderly.rereadConditions (h : Orderly s) : Orderly (rereadConditions s) := by
  simp only [Machine.rereadConditions, List.foldl]
  exact ((((h.rereadOne _).rereadOne _).rereadOne _).rereadOne _).rereadOne _

/-- A re-reading of all brings all in step (R101). -/
theorem inStep_rereadConditions (h : Orderly s) : InStep (rereadConditions s) := by
  have h1 := h.rereadOne .phaseLost
  have h2 := h1.rereadOne .linkLost
  have h3 := h2.rereadOne .measureStale
  have h4 := h3.rereadOne .levelDegraded
  simp only [Machine.rereadConditions, List.foldl]
  intro src he
  cases src with
  | valveTrip => cases he
  | commutationFail => cases he
  | refireLimit => cases he
  | phaseLost =>
    exact ((((inStepAt_rereadOne h _).rereadOne (by decide)).rereadOne (by decide)).rereadOne (by decide)).rereadOne
      (by decide)
  | linkLost =>
    exact (((inStepAt_rereadOne h1 _).rereadOne (by decide)).rereadOne (by decide)).rereadOne (by decide)
  | measureStale => exact ((inStepAt_rereadOne h2 _).rereadOne (by decide)).rereadOne (by decide)
  | levelDegraded => exact (inStepAt_rereadOne h3 _).rereadOne (by decide)
  | orderStale => exact inStepAt_rereadOne h4 _

/-- A re-reading leaves the repeat marks and the masks. -/
theorem rereadOne_repeats {src : Source} (h : isEdgeSource src = false) (s : State) :
    (rereadOne src s).prot.repeats = s.prot.repeats := by
  unfold rereadOne
  repeat' split
  · rfl
  · rfl
  · exact endSource_repeats_of_condition h _ s
  · rfl
  · rfl

theorem rereadOne_masks (src : Source) (s : State) : (rereadOne src s).prot.masks = s.prot.masks := by
  unfold rereadOne
  repeat' split
  · rfl
  · rfl
  · exact endSource_masks src _ s
  · rfl
  · rfl

theorem rereadConditions_repeats (s : State) : (rereadConditions s).prot.repeats = s.prot.repeats := by
  simp only [rereadConditions, List.foldl]
  rw [rereadOne_repeats rfl, rereadOne_repeats rfl, rereadOne_repeats rfl, rereadOne_repeats rfl, rereadOne_repeats rfl]

theorem rereadConditions_masks (s : State) : (rereadConditions s).prot.masks = s.prot.masks := by
  simp only [rereadConditions, List.foldl, rereadOne_masks]

/-! ### Changes of the converter state (R117) -/

theorem Orderly.changeState (h : Orderly s) (c : ConvState) (u : StateCause) (v : Option Valve) :
    Orderly (changeState c u v s) ∧ InStep (changeState c u v s) := by
  have hn : Orderly (notifyState s.ctl.state c u v { s with ctl := { s.ctl with state := c } }) :=
    h.of_prot (by simp) (by simp)
  exact ⟨hn.rereadConditions, inStep_rereadConditions hn⟩

theorem changeState_repeats (c : ConvState) (u : StateCause) (v : Option Valve) (s : State) :
    (changeState c u v s).prot.repeats = s.prot.repeats := by
  simp only [changeState, rereadConditions_repeats]
  simp

theorem changeState_masks (c : ConvState) (u : StateCause) (v : Option Valve) (s : State) :
    (changeState c u v s).prot.masks = s.prot.masks := by
  simp only [changeState, rereadConditions_masks]
  simp

end Sys2Proof.Machine


/-! PROOF. What one grant does, and why the grants that close an event come to an end: O60's part of the close. -/

namespace Sys2Proof.Machine

variable {s t : State}

/-! ### The choice of a grant (R102) -/

/-- A granted source is pending and not masked, and in NESTED mode of higher priority than every source in action (R102). -/
theorem nextGrant_spec {src : Source} (h : nextGrant s = some src) :
    isPending s src = true ∧ hasSource s.prot.masks src = false ∧
      (s.store.setup.nesting = .nested → outranksAction s src = true) := by
  have found : ∀ x, highestPending s = some x → isPending s x = true ∧ hasSource s.prot.masks x = false := by
    intro x hx
    have hf := List.find?_some hx
    simpa using hf
  unfold nextGrant at h
  split at h
  · rename_i x hx
    split at h
    · rename_i hn
      cases h
      exact ⟨(found _ hx).1, (found _ hx).2, fun hnest => by rw [hn] at hnest; cases hnest⟩
    · split at h
      · rename_i hout
        cases h
        exact ⟨(found _ hx).1, (found _ hx).2, fun _ => hout⟩
      · cases h
  · cases h

/-- Without a pending source nothing is granted. -/
theorem nextGrant_eq_none (h : ∀ src, isPending s src = false) : nextGrant s = none := by
  have hf : highestPending s = none := by
    refine List.find?_eq_none.mpr fun x _ => ?_
    simp [h x]
  simp [nextGrant, hf]

/-! ### The move of a granted source -/

theorem moveToAction_prot (src : Source) (s : State) : (moveToAction src s).prot = { s.prot with
    waiting := putSource s.prot.waiting src false
    inAction := s.prot.inAction ++ [⟨src, s.now⟩] } := by
  simp [moveToAction, withdraw]

@[simp] theorem isPending_moveToAction (a b : Source) (s : State) :
    isPending (moveToAction a s) b = if a = b then false else isPending s b := by
  rw [isPending, moveToAction_prot]
  exact hasSource_putSource ..

@[simp] theorem isInAction_moveToAction (a b : Source) (s : State) :
    isInAction (moveToAction a s) b = (isInAction s b || decide (a = b)) := by
  simp [isInAction, moveToAction_prot]

/-- A granted source moved into the list, with the trip line when it is VALVE_TRIP, leaves order (R102, R103, R106). -/
theorem Orderly.granted {src : Source} {n : Nat} (h : Orderly s) (hg : nextGrant s = some src)
    (hw : t.prot.waiting = putSource s.prot.waiting src false)
    (ha : t.prot.inAction = s.prot.inAction ++ [⟨src, n⟩])
    (ht : t.prot.tripLine = (s.prot.tripLine || decide (src = .valveTrip)))
    (hn : t.store.setup.nesting = s.store.setup.nesting) : Orderly t := by
  obtain ⟨hpend, -, hout⟩ := nextGrant_spec hg
  have hnot : src ∉ s.prot.inAction.map (·.source) := by
    rw [← isInAction_iff, h.not_inAction hpend]
    exact Bool.false_ne_true
  obtain ⟨⟨hone, hnd⟩, hr, htrip⟩ := h
  have hin : ∀ b, isInAction t b = (isInAction s b || decide (src = b)) := by
    intro b
    simp [isInAction, ha]
  refine ⟨⟨fun b => ?_, ?_⟩, ?_, ?_⟩
  · rw [hin, isPending, hw, hasSource_putSource]
    by_cases hb : src = b
    · simp [hb]
    · simpa [hb, isPending] using hone b
  · rw [ha, List.map_append]
    exact hnd.append (List.nodup_singleton _) (by simpa using hnot)
  · intro hnest
    rw [hn] at hnest
    rw [ha, List.map_append, List.pairwise_append]
    refine ⟨hr hnest, List.pairwise_singleton _ _, ?_⟩
    have hall := hout hnest
    simp only [outranksAction, List.all_eq_true, decide_eq_true_eq] at hall
    simpa using hall
  · unfold TripFollows at *
    rw [hin, ht, htrip]

/-- A grant leaves every condition in step: its source goes from PENDING into action (R101). -/
theorem InStep.granted {src : Source} (h : InStep s) (hg : nextGrant s = some src) : InStep (moveToAction src s) := by
  have hpend := (nextGrant_spec hg).1
  intro b hb
  obtain ⟨hyes, hno⟩ := h b hb
  rw [(moveToAction_same src s).conditionHolds, isPending_moveToAction, isInAction_moveToAction]
  by_cases hsb : src = b
  · subst hsb
    refine ⟨fun _ => by simp, fun hc => ?_⟩
    rw [(hno hc).1] at hpend
    cases hpend
  · simpa [hsb] using ⟨hyes, hno⟩

theorem InStep.congr (h : InStep s) (hc : ∀ src, conditionHolds t src = conditionHolds s src)
    (hp : ∀ src, isEdgeSource src = false → isPending t src = isPending s src)
    (hi : ∀ src, isEdgeSource src = false → isInAction t src = isInAction s src) : InStep t := by
  intro src he
  rw [hc, hp src he, hi src he]
  exact h src he

/-! ### Stop demands -/

/-- A change of the converter state that a stop demand has made: order, the conditions in step, the repeat marks as they were, and
no state left that a stop demand moves (R127, R117). -/
structure StopSettled (s t : State) : Prop where
  orderly : Orderly t
  inStep : InStep t
  repeats : t.prot.repeats = s.prot.repeats
  unmoved : Unmoved t.ctl.state

theorem StopSettled.trans {u : State} (h : StopSettled s u) (k : StopSettled u t) : StopSettled s t :=
  ⟨k.orderly, k.inStep, by rw [k.repeats, h.repeats], k.unmoved⟩

theorem Orderly.stopSettled {u : State} (h : Orderly s) (hp : u.prot = s.prot) (hs : u.store = s.store) (c : ConvState)
    (hc : Unmoved c) (cause : StateCause) (v : Option Valve) : StopSettled s (Machine.changeState c cause v u) := by
  have hu : Orderly u := h.of_prot hp (by rw [hs])
  obtain ⟨ho, hi⟩ := Orderly.changeState hu c cause v
  exact ⟨ho, hi, by rw [changeState_repeats, hp], by rwa [changeState_state]⟩

theorem Orderly.enterBlocked (h : Orderly s) (cause : StateCause) (v : Option Valve) :
    StopSettled s (enterBlocked cause v s) := by
  simp only [Machine.enterBlocked]
  refine h.stopSettled ?_ ?_ .blocked (by simp [Unmoved]) cause v
  · rfl
  · rfl

theorem Orderly.enterBypass (h : Orderly s) (cause : StateCause) : StopSettled s (enterBypass cause s) := by
  simp only [Machine.enterBypass]
  exact h.stopSettled (by simp) (by simp) .bypass (by simp [Unmoved]) cause none

theorem Orderly.enterRetard (h : Orderly s) (cause : StateCause) : StopSettled s (enterRetard cause s) := by
  simp only [Machine.enterRetard]
  have first : StopSettled s (Machine.changeState .retard cause none { s with ctl := { s.ctl with
      retardTimer := some (s.now + msTicks s.store.setup.guard.retardTime) } }) := by
    refine h.stopSettled ?_ ?_ .retard (by simp [Unmoved]) cause none
    · rfl
    · rfl
  split
  · exact first.trans (first.orderly.enterBlocked .retardEnd none)
  · exact first

/-- A stop demand leaves the state, or settles it in a state that no stop demand moves (R127). -/
theorem Orderly.stopDemand (h : Orderly s) (src : Source) :
    (Unmoved s.ctl.state ∧ stopDemand src s = s) ∨ (¬ Unmoved s.ctl.state ∧ StopSettled s (stopDemand src s)) := by
  unfold Machine.stopDemand
  cases hc : s.ctl.state with
  | running =>
    refine .inr ⟨by simp [Unmoved], ?_⟩
    cases s.store.setup.role with
    | inverter => exact h.enterBypass _
    | rectifier => exact h.enterRetard _
  | precheck => exact .inr ⟨by simp [Unmoved], h.enterBlocked _ _⟩
  | testing => exact .inr ⟨by simp [Unmoved], h.enterBlocked _ _⟩
  | testHeld => exact .inr ⟨by simp [Unmoved], h.enterBlocked _ _⟩
  | bypass => exact .inl ⟨by simp [Unmoved], rfl⟩
  | retard => exact .inl ⟨by simp [Unmoved], rfl⟩
  | blocked => exact .inl ⟨by simp [Unmoved], rfl⟩
  | unconfigured => exact .inl ⟨by simp [Unmoved], rfl⟩

/-! ### Counting the grants that an event has left -/

/-- The number of sources in a set. -/
def sourceCount (x : SourceSet) : Nat :=
  x.valveTrip.toNat + x.phaseLost.toNat + x.linkLost.toNat + x.commutationFail.toNat + x.refireLimit.toNat +
    x.measureStale.toNat + x.levelDegraded.toNat + x.orderStale.toNat

theorem sourceCount_le (x : SourceSet) : sourceCount x ≤ 8 := by
  have h1 := x.valveTrip.toNat_le
  have h2 := x.phaseLost.toNat_le
  have h3 := x.linkLost.toNat_le
  have h4 := x.commutationFail.toNat_le
  have h5 := x.refireLimit.toNat_le
  have h6 := x.measureStale.toNat_le
  have h7 := x.levelDegraded.toNat_le
  have h8 := x.orderStale.toNat_le
  unfold sourceCount
  omega

/-- Taking a source out or putting one in moves the count by what it held. -/
theorem sourceCount_putSource (x : SourceSet) (src : Source) (b : Bool) :
    sourceCount (putSource x src b) + (hasSource x src).toNat = sourceCount x + b.toNat := by
  cases src <;> simp only [sourceCount, putSource, hasSource] <;> omega

theorem sourceCount_take {x : SourceSet} {src : Source} (h : hasSource x src = true) :
    sourceCount (putSource x src false) + 1 = sourceCount x := by
  simpa [h] using sourceCount_putSource x src false

theorem sourceCount_put (x : SourceSet) (src : Source) : sourceCount (putSource x src true) ≤ sourceCount x + 1 :=
  Nat.le.intro (sourceCount_putSource x src true)

theorem sourceCount_eq_zero {x : SourceSet} (h : sourceCount x = 0) (src : Source) : hasSource x src = false := by
  by_contra hne
  have htake := sourceCount_take (x := x) (src := src) (by simpa using hne)
  omega

/-- Room for the one change of the converter state that a stop demand makes within an event: every source may come back to PENDING
by it. -/
def stopRoom : ConvState → Nat
  | .running => 8
  | .precheck => 8
  | .testing => 8
  | .testHeld => 8
  | _ => 0

theorem stopRoom_eq_zero {c : ConvState} (h : Unmoved c) : stopRoom c = 0 := by
  obtain rfl | rfl | rfl | rfl := h <;> rfl

theorem stopRoom_eq_eight {c : ConvState} (h : ¬ Unmoved c) : stopRoom c = 8 := by
  cases c <;> simp_all [Unmoved, stopRoom]

/-- A bound on the grants that an event has left: each takes a source out of the pending set, into which a repeat mark may bring
one back, and a stop demand any number, once. -/
def grantsLeft (s : State) : Nat :=
  sourceCount s.prot.waiting + sourceCount s.prot.repeats + stopRoom s.ctl.state

theorem grantsLeft_le (s : State) : grantsLeft s ≤ 32 := by
  have h1 := sourceCount_le s.prot.waiting
  have h2 := sourceCount_le s.prot.repeats
  have h3 : stopRoom s.ctl.state ≤ 8 := by cases s.ctl.state <;> decide
  unfold grantsLeft
  omega

/-- What a grant leaves: order, the conditions in step, and fewer grants to come. -/
structure GrantSettled (s t : State) : Prop where
  orderly : Orderly t
  inStep : InStep t
  fewer : grantsLeft t < grantsLeft s

/-- The grant of a stop source (R104, R106). -/
theorem GrantSettled.stop {src : Source} {u : State} (hg : nextGrant s = some src) (ho : Orderly u) (hi : InStep u)
    (hw : u.prot.waiting = putSource s.prot.waiting src false) (hr : u.prot.repeats = s.prot.repeats)
    (hc : u.ctl = s.ctl) : GrantSettled s (stopDemand src u) := by
  have htake := sourceCount_take (x := s.prot.waiting) (nextGrant_spec hg).1
  have hbefore : grantsLeft u < grantsLeft s := by
    simp only [grantsLeft, hw, hr, hc]
    omega
  obtain ⟨-, heq⟩ | ⟨hmoved, hstop⟩ := ho.stopDemand src
  · rw [heq]
    exact ⟨ho, hi, hbefore⟩
  · refine ⟨hstop.orderly, hstop.inStep, ?_⟩
    have hroom := stopRoom_eq_eight hmoved
    have hnone := stopRoom_eq_zero hstop.unmoved
    have hle := sourceCount_le (stopDemand src u).prot.waiting
    rw [hc] at hroom
    simp only [grantsLeft, hstop.repeats, hr, hnone, hroom]
    omega

/-- The grant of a source whose action is no stop demand: a TIMED one of duration 0 ends at once (R107). -/
theorem GrantSettled.timed {src : Source} (hg : nextGrant s = some src) (ho : Orderly s) (hi : InStep s)
    (hne : src ≠ .valveTrip) : GrantSettled s (startTimed src (moveToAction src s)) := by
  have hmoved : Orderly (moveToAction src s) :=
    ho.granted (n := s.now) hg (by rw [moveToAction_prot]) (by rw [moveToAction_prot]) (by rw [moveToAction_prot]; simp [hne])
      (by simp)
  have hstep := hi.granted hg
  have htake := sourceCount_take (x := s.prot.waiting) (nextGrant_spec hg).1
  have hfewer : sourceCount (moveToAction src s).prot.waiting + 1 + sourceCount (moveToAction src s).prot.repeats +
      stopRoom (moveToAction src s).ctl.state = grantsLeft s := by
    simp only [grantsLeft, moveToAction_prot, moveToAction_ctl]
    omega
  generalize moveToAction src s = u at *
  unfold startTimed
  split
  · rename_i d hd
    have hedge : isEdgeSource src = true := by cases src <;> simp_all [actionDuration, isEdgeSource]
    have htimer : ∀ x, Orderly ({ u with prot := setActionTimer src x u.prot } : State) :=
      fun x => hmoved.congr (by cases src <;> rfl) (by cases src <;> rfl) (by cases src <;> rfl) rfl
    have hwait : ∀ x, (setActionTimer src x u.prot).waiting = u.prot.waiting := fun x => by cases src <;> rfl
    have hact : ∀ x, (setActionTimer src x u.prot).inAction = u.prot.inAction := fun x => by cases src <;> rfl
    have hrep : ∀ x, (setActionTimer src x u.prot).repeats = u.prot.repeats := fun x => by cases src <;> rfl
    have hcond : ∀ x b, conditionHolds ({ u with prot := setActionTimer src x u.prot } : State) b = conditionHolds u b :=
      fun x b => (prot_same (setActionTimer src x u.prot) u).conditionHolds b
    have htimed : ∀ x, InStep ({ u with prot := setActionTimer src x u.prot } : State) := fun x =>
      hstep.congr (hcond x) (fun b _ => isPending_congr (hwait x) b) (fun b _ => isInAction_congr (hact x) b)
    dsimp only
    split
    · refine ⟨(htimer _).endSource _ _, ?_, ?_⟩
      · refine (htimed _).congr (fun b => (endSource_same _ _ _).conditionHolds b) (fun b hb => ?_) fun b hb => ?_
        · have hsb : src ≠ b := by rintro rfl; simp [hb] at hedge
          simp [hsb]
        · have hsb : b ≠ src := by rintro rfl; simp [hb] at hedge
          simp [hsb]
      · have hnone : conditionHolds ({ u with prot := setActionTimer src (some (u.now + d)) u.prot } : State) src = false := by
          cases src <;> simp_all [isEdgeSource, conditionHolds]
        rw [← hfewer]
        unfold grantsLeft
        rw [endSource_prot, endSource_ctl]
        simp only [returnsPending, hedge, Bool.true_and, hnone, Bool.or_false, hwait, hrep]
        cases hmark : hasSource u.prot.repeats src with
        | true =>
          have h1 := sourceCount_take hmark
          have h2 := sourceCount_put u.prot.waiting src
          simp only [if_true]
          omega
        | false =>
          simp only [Bool.false_eq_true, if_false]
          omega
    · refine ⟨htimer _, htimed _, ?_⟩
      rw [← hfewer]
      unfold grantsLeft
      simp only [hwait, hrep]
      omega
  · refine ⟨hmoved, hstep, ?_⟩
    rw [← hfewer]
    unfold grantsLeft
    omega

/-- One grant whole (R102). -/
theorem grantOne_settled {src : Source} (hg : nextGrant s = some src) (ho : Orderly s) (hi : InStep s) :
    GrantSettled s (grantOne src s) := by
  have stop : src ≠ .valveTrip → GrantSettled s (stopDemand src (moveToAction src s)) := fun hne =>
    .stop hg
      (ho.granted (n := s.now) hg (by rw [moveToAction_prot]) (by rw [moveToAction_prot])
        (by rw [moveToAction_prot]; simp [hne]) (by simp))
      (hi.granted hg) (by rw [moveToAction_prot]) (by rw [moveToAction_prot]) (by simp)
  unfold grantOne startAction
  cases src with
  | valveTrip =>
    refine .stop hg (ho.granted (n := s.now) hg ?_ ?_ ?_ ?_) ?_ ?_ ?_ ?_
    · simp [moveToAction_prot]
    · simp [moveToAction_prot]
    · simp
    · simp
    · exact (hi.granted hg).congr (fun b => (prot_same _ _).conditionHolds b) (fun _ _ => rfl) (fun _ _ => rfl)
    · simp [moveToAction_prot]
    · simp [moveToAction_prot]
    · simp
  | phaseLost => exact stop (by decide)
  | linkLost => exact stop (by decide)
  | commutationFail => exact .timed hg ho hi (by decide)
  | refireLimit => exact .timed hg ho hi (by decide)
  | measureStale => exact .timed hg ho hi (by decide)
  | levelDegraded => exact .timed hg ho hi (by decide)
  | orderStale => exact .timed hg ho hi (by decide)

/-- The grants of an event end within the bound of the loop (R102). -/
theorem grantLoop_settled (n : Nat) (s : State) (ho : Orderly s) (hi : InStep s) (hn : grantsLeft s ≤ n) :
    Orderly (grantLoop n s) ∧ Settled (grantLoop n s) := by
  induction n generalizing s with
  | zero =>
    refine ⟨ho, hi, nextGrant_eq_none fun src => ?_⟩
    have hzero : sourceCount s.prot.waiting = 0 := by
      unfold grantsLeft at hn
      omega
    exact sourceCount_eq_zero hzero src
  | succ n ih =>
    unfold grantLoop
    split
    · rename_i src hg
      have hgrant := grantOne_settled hg ho hi
      exact ih _ hgrant.orderly hgrant.inStep (by have := hgrant.fewer; omega)
    · rename_i hg
      exact ⟨ho, hi, hg⟩

/-- The close of an event settles the resolver (R101, R102). -/
theorem Orderly.settle (h : Orderly s) : Orderly (settle s) ∧ Settled (settle s) :=
  grantLoop_settled 32 _ h.rereadConditions (inStep_rereadConditions h) (grantsLeft_le _)

end Sys2Proof.Machine


/-! PROOF. Every event of the part leaves the resolver in order before its close, which settles it (R99 to R106). -/

namespace Sys2Proof.Machine

variable {s t : State}

/-! ### The re-sort at a change of the nesting mode (R103) -/

theorem insertRising_perm (a : InAction) (l : List InAction) : (insertRising a l).Perm (a :: l) := by
  induction l with
  | nil => exact .refl _
  | cons b bs ih =>
    unfold insertRising
    split
    · exact .refl _
    · exact (ih.cons b).trans (.swap a b bs)

theorem sortRising_perm (l : List InAction) : (sortRising l).Perm l := by
  induction l with
  | nil => exact .refl _
  | cons a l ih => exact (insertRising_perm a _).trans (ih.cons a)

/-- A list of sources in strictly rising priority: their numbers fall. -/
def NumbersFall (l : List InAction) : Prop := l.Pairwise fun a b => sourceNumber b.source < sourceNumber a.source

theorem insertRising_falls {a : InAction} {l : List InAction} (h : NumbersFall l) (ha : a.source ∉ l.map (·.source)) :
    NumbersFall (insertRising a l) := by
  induction l with
  | nil => exact List.pairwise_singleton _ _
  | cons b bs ih =>
    obtain ⟨hb, hbs⟩ := List.pairwise_cons.mp h
    simp only [List.map_cons, List.mem_cons, not_or] at ha
    unfold insertRising
    split
    · rename_i hlt
      refine List.pairwise_cons.mpr ⟨fun x hx => ?_, h⟩
      obtain rfl | hx := List.mem_cons.mp hx
      · exact hlt
      · exact (hb x hx).trans hlt
    · rename_i hge
      refine List.pairwise_cons.mpr ⟨fun x hx => ?_, ih hbs ha.2⟩
      obtain rfl | hx := List.mem_cons.mp ((insertRising_perm a bs).mem_iff.mp hx)
      · have hne : sourceNumber x.source ≠ sourceNumber b.source := fun e => ha.1 (sourceNumber_inj e)
        omega
      · exact hb x hx

theorem sortRising_falls {l : List InAction} (h : (l.map (·.source)).Nodup) : NumbersFall (sortRising l) := by
  induction l with
  | nil => exact .nil
  | cons a l ih =>
    obtain ⟨ha, hl⟩ := List.nodup_cons.mp h
    exact insertRising_falls (ih hl) fun hmem => ha (((sortRising_perm l).map _).mem_iff.mp hmem)

/-- The re-sort makes good what a change of the nesting mode may break (R103). -/
theorem Orderly.resortOnNesting {u : State} (h : Orderly s) (hp : u.prot = s.prot) :
    Orderly (resortOnNesting s.store.setup.nesting u) := by
  obtain ⟨⟨hone, hnd⟩, hr, ht⟩ := h
  unfold Machine.resortOnNesting
  split
  · have hperm := (sortRising_perm u.prot.inAction).map (·.source)
    have hin : ∀ b, isInAction ({ u with prot := { u.prot with inAction := sortRising u.prot.inAction } } : State) b =
        isInAction s b := by
      intro b
      rw [Bool.eq_iff_iff, isInAction_iff, isInAction_iff, hperm.mem_iff, hp]
    refine ⟨⟨fun b => ?_, ?_⟩, fun _ => ?_, ?_⟩
    · rw [hin]
      simpa only [isPending, hp] using hone b
    · rw [hperm.nodup_iff, hp]
      exact hnd
    · rw [List.pairwise_map]
      refine sortRising_falls ?_
      rw [hp]
      exact hnd
    · unfold TripFollows at *
      rw [hin]
      simpa only [hp] using ht
  · rename_i hnot
    have hplaced : Placed u := by
      unfold Placed isPending isInAction
      rw [hp]
      exact ⟨hone, hnd⟩
    refine ⟨hplaced, fun hnest => ?_, ?_⟩
    · have hbefore : s.store.setup.nesting = .nested := by
        cases hb : s.store.setup.nesting with
        | nested => rfl
        | openMode => exact absurd ⟨hb, hnest⟩ hnot
      rw [hp]
      exact hr hbefore
    · unfold TripFollows isInAction
      rw [hp]
      exact ht

/-! ### The setup sequence -/

theorem Orderly.refuseRecord (h : Orderly s) (k : RequestKind) (tag : Nat) (c : Completion) :
    Orderly (refuseRecord k tag c s) := by
  unfold Machine.refuseRecord
  split <;> exact h.congr rfl rfl rfl rfl

theorem Orderly.takeRecord {put : State → State} (hput : ∀ u, Orderly u → Orderly (put u)) (h : Orderly s)
    (k : RequestKind) (tag : Nat) (refusal : Option Completion) : Orderly (takeRecord k tag refusal put s) := by
  unfold Machine.takeRecord
  split
  · exact h.refuseRecord ..
  · have hacc : Orderly (accept k tag s) := h.congr rfl rfl rfl rfl
    exact (hput _ hacc).congr rfl rfl rfl rfl

theorem Orderly.putGuard (h : Orderly s) (v : GuardValues) (n : Nesting) : Orderly (putGuard v n s) :=
  h.resortOnNesting (by simp)

theorem Orderly.putLevels (h : Orderly s) (v : LevelValues) : Orderly (putLevels v s) :=
  h.of_prot (by simp [Machine.putLevels]) (by simp [Machine.putLevels, withSetup])

theorem Orderly.loadDefaults (h : Orderly s) : Orderly (loadDefaults s) := by
  simp only [Machine.loadDefaults]
  refine Orderly.of_prot (h.resortOnNesting ?_) (formOnChange_prot _ _) (by rw [formOnChange_store])
  rw [followBoost_prot]
  split <;> rfl

theorem Orderly.beginSetup (h : Orderly s) : Orderly (beginSetup s) := by
  have loaded := h.loadDefaults
  have changed : Orderly (if (Machine.loadDefaults s).ctl.state = .blocked
      then Machine.changeState .unconfigured .setupBegin none (Machine.loadDefaults s) else Machine.loadDefaults s) := by
    split
    · exact (loaded.changeState ..).1
    · exact loaded
  exact changed.congr rfl rfl rfl rfl

theorem Orderly.endSetup (h : Orderly s) : Orderly (endSetup s) := by
  have hstep : Orderly (withStep 0 s) := h.congr rfl rfl rfl rfl
  simp only [Machine.endSetup]
  split
  · exact (hstep.changeState ..).1
  · exact hstep

/-! ### Entries to the converter states -/

theorem Orderly.enterPrecheck (h : Orderly s) : Orderly (enterPrecheck s) := by
  simp only [Machine.enterPrecheck]
  refine (Orderly.changeState ?_ _ _ _).1
  exact h.congr rfl rfl rfl rfl

theorem Orderly.enterRunning (h : Orderly s) (u : StateCause) : Orderly (enterRunning u s) := by
  simp only [Machine.enterRunning]
  refine (Orderly.changeState ?_ _ _ _).1
  exact h.congr rfl rfl rfl rfl

theorem Orderly.enterTesting (h : Orderly s) (u : StateCause) : Orderly (enterTesting u s) := by
  simp only [Machine.enterTesting]
  refine (Orderly.changeState ?_ _ _ _).1
  exact h.congr rfl rfl rfl rfl

theorem Orderly.enterTestHeld (h : Orderly s) : Orderly (enterTestHeld s) := by
  simp only [Machine.enterTestHeld]
  refine (Orderly.changeState ?_ _ _ _).1
  exact h.congr rfl rfl rfl rfl

theorem Orderly.endTestRun (h : Orderly s) : Orderly (endTestRun s) := by
  unfold Machine.endTestRun
  split
  · refine (Orderly.enterBlocked ?_ _ _).orderly
    exact h.congr rfl rfl rfl rfl
  · exact h

/-! ### Requests -/

/-- Every request leaves the resolver in order. -/
theorem Orderly.takeRequest (h : Orderly s) (tag : Nat) (r : Request) : Orderly (takeRequest tag r s) := by
  have replied : ∀ k c x, Orderly (reply k tag c x s) := fun k c x => h.congr rfl rfl rfl rfl
  have refused : ∀ k c, Orderly (refuse k tag c s) := fun k c => replied k c .empty
  have accepted : ∀ k, Orderly (accept k tag s) := fun k => replied k .done .empty
  cases r with
  | setupBegin =>
    simp only [Machine.takeRequest, takeSetupBegin]
    split
    · exact h.refuseRecord ..
    · exact (accepted _).beginSetup
  | setupPhase v => exact Orderly.takeRecord (put := putPhase v) (fun _ hu => hu.congr rfl rfl rfl rfl) h ..
  | setupAngles role v =>
    exact Orderly.takeRecord (put := putAngles (role.getD .rectifier) v) (fun _ hu => hu.congr rfl rfl rfl rfl) h ..
  | setupGuard v nesting => exact h.takeRecord (fun _ hu => hu.putGuard ..) ..
  | setupLevels v => exact h.takeRecord (fun _ hu => hu.putLevels ..) ..
  | setupEnd =>
    simp only [Machine.takeRequest, takeSetupEnd]
    split
    · exact h.refuseRecord ..
    · exact (accepted _).endSetup
  | tableWrite row entries =>
    simp only [Machine.takeRequest, takeTableWrite]
    repeat' split
    all_goals exact h.congr rfl rfl rfl rfl
  | tableRead sel =>
    simp only [Machine.takeRequest, takeTableRead]
    split <;> exact h.congr rfl rfl rfl rfl
  | mapWrite y d =>
    simp only [Machine.takeRequest, takeMapWrite]
    repeat' split
    all_goals exact h.congr rfl rfl rfl rfl
  | mapLock =>
    simp only [Machine.takeRequest, takeMapLock]
    split <;> exact h.congr rfl rfl rfl rfl
  | deblock tg mg =>
    simp only [Machine.takeRequest, takeDeblock, checked]
    repeat' split
    · exact refused ..
    · exact refused ..
    · exact (accepted _).enterPrecheck
    · exact refused ..
    · exact refused ..
    · refine Orderly.enterRunning ?_ _
      exact h.congr rfl rfl rfl rfl
    · exact refused ..
  | block =>
    simp only [Machine.takeRequest, takeBlock]
    split
    · exact refused ..
    · exact accepted _
    · exact ((accepted _).enterBlocked ..).orderly
  | bypass =>
    simp only [Machine.takeRequest, takeBypass]
    split
    · exact ((accepted _).enterBypass _).orderly
    · exact refused ..
  | testStart a c tg mg =>
    simp only [Machine.takeRequest, takeTestStart, checked]
    repeat' split
    · exact refused ..
    · exact refused ..
    · refine Orderly.enterTesting ?_ _
      exact h.congr rfl rfl rfl rfl
    · exact refused ..
  | testSuspend =>
    simp only [Machine.takeRequest, takeTestSuspend]
    split
    · exact (accepted _).enterTestHeld
    · exact refused ..
  | testResume =>
    simp only [Machine.takeRequest, takeTestResume]
    repeat' split
    · exact refused ..
    · exact (accepted _).enterTesting _
    · exact refused ..
  | angleOrder a =>
    simp only [Machine.takeRequest, takeAngleOrder]
    split <;> exact h.congr rfl rfl rfl rfl
  | phaseRestart =>
    simp only [Machine.takeRequest, takePhaseRestart]
    split <;> exact h.congr rfl rfl rfl rfl
  | restart =>
    simp only [Machine.takeRequest, takeRestart]
    split
    · refine ⟨⟨fun b => ?_, ?_⟩, fun _ => ?_, ?_⟩
      · rintro ⟨-, hb⟩
        cases hb
      · exact List.nodup_nil
      · exact List.Pairwise.nil
      · rfl
    · exact refused ..
  | protMask l =>
    simp only [Machine.takeRequest, takeProtMask]
    split <;> exact h.congr rfl rfl rfl rfl
  | protEnd n =>
    simp only [Machine.takeRequest, takeProtEnd]
    repeat' split
    · exact refused ..
    · exact refused ..
    · exact refused ..
    · exact (accepted _).endSource ..
  | protEndTop =>
    simp only [Machine.takeRequest, takeProtEndTop]
    repeat' split
    · exact refused ..
    · exact refused ..
    · exact (replied _ _ _).endSource ..
  | protStatus => exact replied ..
  | levelLatch =>
    simp only [Machine.takeRequest, takeLevelLatch]
    split <;> exact h.congr rfl rfl rfl rfl
  | levelRead v f =>
    simp only [Machine.takeRequest, takeLevelRead]
    repeat' split
    all_goals exact h.congr rfl rfl rfl rfl
  | levelFind v l states =>
    simp only [Machine.takeRequest, takeLevelFind]
    repeat' split
    all_goals exact h.congr rfl rfl rfl rfl
  | levelRelease => exact h.congr rfl rfl rfl rfl
  | levelClear v l =>
    simp only [Machine.takeRequest, takeLevelClear]
    repeat' split
    all_goals exact h.congr rfl rfl rfl rfl
  | levelExclude v l =>
    simp only [Machine.takeRequest, takeLevelExclude]
    repeat' split
    all_goals exact h.congr rfl rfl rfl rfl
  | status => exact h.congr rfl rfl rfl rfl
  | historyRead o =>
    simp only [Machine.takeRequest, takeHistoryRead]
    split <;> exact h.congr rfl rfl rfl rfl

theorem Orderly.takenEffects_popped (h : Orderly s) (k : RequestKind) : Orderly (takenEffects k (popped s)) := by
  simp only [takenEffects]
  repeat' split
  all_goals exact h.congr rfl rfl rfl rfl

/-! ### Return lines -/

/-- Step 3 of an accepted record touches the resolver through its edges alone (R82). -/
theorem Orderly.testCommutation (h : Orderly s) (v : Valve) (r : ReturnRecord) (nv : Bool) :
    Orderly (testCommutation v r nv s) := by
  unfold Machine.testCommutation
  repeat' split
  · exact h.congr rfl rfl rfl rfl
  · exact h.raiseCommutationFail
  · exact h
  · exact h

theorem Orderly.classifyValve (h : Orderly s) (v : Valve) (r : ReturnRecord) : Orderly (classifyValve v r s) := by
  simp only [Machine.classifyValve]
  split
  · refine Orderly.raiseEdge ?_ _
    exact h.congr rfl rfl rfl rfl
  · exact h.congr rfl rfl rfl rfl

theorem Orderly.probeAnswer (h : Orderly s) (v : Valve) (nv : Bool) : Orderly (probeAnswer v nv s) := by
  simp only [Machine.probeAnswer]
  repeat' split
  · exact h
  · exact (h.enterBlocked ..).orderly
  · exact (h.enterBlocked ..).orderly
  · refine Orderly.enterRunning ?_ _
    exact h.congr rfl rfl rfl rfl
  · exact h.congr rfl rfl rfl rfl

theorem Orderly.processReturn (h : Orderly s) (v : Valve) (r : ReturnRecord) : Orderly (processReturn v r s) := by
  have marked : Orderly (markAccepted v s) := h.congr rfl rfl rfl rfl
  have tested := marked.testCommutation v r (noVoltage v r s)
  have judged : Orderly (if noVoltage v r s then Machine.testCommutation v r (noVoltage v r s) (markAccepted v s)
      else Machine.classifyValve v r (Machine.testCommutation v r (noVoltage v r s) (markAccepted v s))) := by
    split
    · exact tested
    · exact tested.classifyValve v r
  simp only [Machine.processReturn]
  split
  · exact judged.probeAnswer v _
  · exact judged

/-! ### Events -/

/-- Neither the ACU nor the calendar writes the resolver. -/
theorem afterPru_prot (r : Pru × Option RefPoint) (s : State) : (afterPru r s).prot = s.prot :=
  afterPru_frame State.prot (fun _ _ => rfl) (fun o s => takeOrder_prot s o) r s

theorem takeArmedExpiry_prot (s : State) : (takeArmedExpiry s).prot = s.prot := by
  unfold takeArmedExpiry
  split
  · exact afterPru_prot _ s
  · rfl

theorem fireFirst_prot (s : State) : (fireFirst s).prot = s.prot := by
  unfold fireFirst
  split <;> simp

theorem acceptSample_prot (seq : Nat) (id : Int) (uac : Nat) (s : State) : (acceptSample seq id uac s).prot = s.prot := by
  simp [acceptSample, holdSample]

theorem acceptSample_store (seq : Nat) (id : Int) (uac : Nat) (s : State) :
    (acceptSample seq id uac s).store = s.store := by
  simp [acceptSample, holdSample]

theorem Orderly.refireValve (h : Orderly s) (v : Valve) : Orderly (refireValve v s) := by
  simp only [Machine.refireValve]
  split
  · refine Orderly.raiseEdge ?_ _
    exact h.congr rfl rfl rfl rfl
  · exact h.congr rfl rfl rfl rfl

/-- Every event leaves the resolver in order before its close. -/
theorem Event.body_orderly (e : Event) (h : Orderly s) : Orderly (e.body s) := by
  cases e with
  | request tag r => exact (h.takenEffects_popped _).takeRequest tag r
  | badLength tag k => exact (h.takenEffects_popped k).congr rfl rfl rfl rfl
  | unknownKind tag code => exact h.congr rfl rfl rfl rfl
  | controlFrame f => exact h.of_prot (enqueue_prot _ f) (by simp [Event.body])
  | crossing kind lag => exact Orderly.endTestRun (h.of_prot (afterPru_prot _ s) (by rw [takeCrossing, afterPru_store]))
  | sample seq id uac => exact h.of_prot (acceptSample_prot ..) (by rw [Event.body, acceptSample_store])
  | returnRecord line r => exact h.processReturn line r
  | reappear line => exact h.refireValve line
  | armedExpiry => exact Orderly.endTestRun (h.of_prot (takeArmedExpiry_prot s) (by rw [takeArmedExpiry_store]))
  | firing => exact Orderly.endTestRun (h.of_prot (fireFirst_prot s) (by rw [fireFirst_store]))
  | cfpHoldExpiry => exact h.congr rfl rfl rfl rfl
  | actionTimerExpiry src => exact h.endSource ..
  | runWindowExpiry => exact h.congr rfl rfl rfl rfl
  | precheckTimerExpiry =>
    change Orderly (precheckTimeout s)
    unfold precheckTimeout
    split
    · exact (h.enterBlocked ..).orderly
    · exact h.congr rfl rfl rfl rfl
  | retardTimerExpiry =>
    change Orderly (retardTimeout s)
    unfold retardTimeout
    split
    · exact (h.enterBlocked ..).orderly
    · exact h.congr rfl rfl rfl rfl
  | staleTimerExpiry => exact h.congr rfl rfl rfl rfl
  | linkTimerExpiry => exact h.congr rfl rfl rfl rfl
  | orderTimerExpiry => exact h.congr rfl rfl rfl rfl

theorem resolverInv_iff : ResolverInv s ↔ Settled s ∧ Orderly s := Iff.rfl

/-- The resolver reads none of what the rows that it does not close write. -/
theorem ResolverInv.congr (h : ResolverInv s) (hprot : t.prot = s.prot) (hpru : t.pru = s.pru) (hctl : t.ctl = s.ctl)
    (hmeas : t.meas = s.meas) (hmon : t.monitors = s.monitors) (hstore : t.store = s.store)
    (hsilent : t.port.linkSilent = s.port.linkSilent) (horder : t.port.orderTimer = s.port.orderTimer) : ResolverInv t :=
  ⟨h.1.congr hprot hpru (by rw [hctl]) hmeas hmon (by rw [hstore]) hsilent horder,
    Orderly.of_prot (resolverInv_iff.mp h).2 hprot (by rw [hstore])⟩

/-- The resolver right after power-on: no source has a position, and no condition holds. -/
theorem resolverInv_reset (q : List Instr) : ResolverInv { State.reset with pending := q } := by
  have hlevels : levelDegraded State.reset = false := by decide +kernel
  have hcond : ∀ src, conditionHolds ({ State.reset with pending := q } : State) src = false := by
    intro src
    cases src with
    | levelDegraded => exact hlevels
    | _ => rfl
  have hwait : ∀ src, isPending ({ State.reset with pending := q } : State) src = false := by
    intro src
    cases src <;> rfl
  refine ⟨⟨fun src _ => ?_, nextGrant_eq_none hwait⟩, ⟨fun src hboth => ?_, List.nodup_nil⟩, fun _ => .nil, rfl⟩
  · rw [hcond, hwait]
    exact ⟨fun h => absurd h Bool.false_ne_true, fun _ => ⟨rfl, fun _ => rfl⟩⟩
  · rw [hwait] at hboth
    cases hboth.1

theorem resolverInv_kept : Kept ResolverInv where
  powerOn := resolverInv_reset
  event e _ _ h := (Orderly.settle (e.body_orderly (resolverInv_iff.mp h).2)).symm
  time _ _ h := h.congr rfl rfl rfl rfl rfl rfl rfl rfl
  pending _ _ h := h.congr rfl rfl rfl rfl rfl rfl rfl rfl
  receivers _ _ h := h.congr rfl rfl rfl rfl rfl rfl rfl rfl
  sent _ h := h.congr rfl rfl rfl rfl rfl rfl rfl rfl
  repeatPulse _ _ _ _ h := h.congr rfl rfl rfl rfl rfl rfl rfl rfl
  trainEnd _ _ h := h.congr rfl rfl rfl rfl rfl rfl rfl rfl

/-- Settles O60: every event leaves order before its close, the close settles what stands in order, and the moves that the resolver
does not close write nothing that it reads. -/
theorem stepSettlesTheResolver : Obligations.StepSettlesTheResolver := by
  intro s t hs h
  exact resolverInv_kept.step hs h

end Sys2Proof.Machine


/-! PROOF. How a taken request completes, said once, and the setup sequence (R137 to R143). -/

namespace Sys2Proof.Machine

variable {s t : State}

/-! ### Completion of a taken request -/

/-- No stop demand moves a converter at rest (R127, R137). -/
theorem unmoved_of_isAtRest {c : ConvState} (h : isAtRest c = true) : Unmoved c := by
  cases c <;> simp_all [isAtRest, Unmoved]

theorem quiet_of_isAtRest (h : isAtRest s.ctl.state = true) : Quiet s := .inr (unmoved_of_isAtRest h)

/-- The shape of a completion proof with several records: the event before its close, and the close of a quiet state. -/
theorem completesSending_of {c : Instr} {recs : List OutRecord} {u m : State} (h : exec c s = .next (settle m))
    (hs : SameButResolver u m) (hq : Quiet m) (hp : (s.port.outgoing ++ recs) <+: m.port.outgoing) :
    CompletesSending c s recs u :=
  ⟨settle m, h, hs.trans (settle_quiet hq), hp.trans (settle_grows m).1⟩

/-- What stands on the outgoing list before the close of an event stands there after it. -/
theorem settle_sends {l : List OutRecord} {m : State} (h : l <+: m.port.outgoing) : l <+: (settle m).port.outgoing :=
  h.trans (settle_grows m).1

/-- What a taken request finds in the resolver's terms is what stood before it was taken. -/
theorem Quiet.takenEffects (h : Quiet s) (k : RequestKind) : Quiet (takenEffects k (popped s)) := by
  refine h.congr ?_ ?_ ?_ ?_
  all_goals
    simp only [Machine.takenEffects]
    repeat' split
    all_goals rfl

/-- A taken request that only replies completes with its reply, whatever its kind writes at its taking. -/
theorem completesReplying_of_reply {tag : Nat} {r : Request} {code : Completion} {x : Content} {u : State}
    (h : TakesRequest s tag r) (hq : Quiet s)
    (hr : takeRequest tag r (takenEffects (requestKind r) (popped s)) = reply (requestKind r) tag code x u)
    (hu : u = takenEffects (requestKind r) (popped s) ∨ u = abandoned (popped s)) :
    CompletesReplying (rowOfKind (requestKind r)) s (.reply (requestKind r) tag code x) u := by
  have hquiet : Quiet u := by
    obtain rfl | rfl := hu
    · exact hq.takenEffects _
    · exact hq.congr rfl rfl rfl rfl
  have hout : u.port.outgoing = s.port.outgoing := by
    obtain rfl | rfl := hu
    · exact (takenEffects_popped_port _ s).2
    · rfl
  refine completesReplying_of (exec_taken h) (m := takeRequest tag r _) ?_ ?_ ?_
  · rw [hr]
    rfl
  · rw [hr]
    exact hquiet.congr rfl rfl rfl rfl
  · rw [hr, ← hout]
    exact List.prefix_rfl

/-- A kind that is neither read-only nor of the setup sequence nor an ANGLE_ORDER: its taking only closes the sequence (R143). -/
def isPlain (k : RequestKind) : Bool := !isReadOnly k && !isSetupRecord k && decide (k ≠ .angleOrder)

theorem takenEffects_plain {k : RequestKind} (h : isPlain k = true) (s : State) : takenEffects k s = abandoned s := by
  simp only [isPlain, Bool.and_eq_true, Bool.not_eq_true', decide_eq_true_eq] at h
  exact takenEffects_abandons h.1.1 h.1.2 h.2 s

/-- A plain request that is refused, or answered without more, closes the sequence and replies (R118, R143). -/
theorem completesReplying_plain {tag : Nat} {r : Request} {code : Completion} {x : Content} (h : TakesRequest s tag r)
    (hk : isPlain (requestKind r) = true) (hq : Quiet s)
    (hr : takeRequest tag r (abandoned (popped s)) = reply (requestKind r) tag code x (abandoned (popped s))) :
    CompletesReplying (rowOfKind (requestKind r)) s (.reply (requestKind r) tag code x) (abandoned (popped s)) :=
  completesReplying_of_reply h hq (by rw [takenEffects_plain hk, hr]) (.inr rfl)

/-- A plain request that is carried out: what its rule leaves before the close. -/
theorem exec_plain {tag : Nat} {r : Request} (h : TakesRequest s tag r) (hk : isPlain (requestKind r) = true) :
    exec (rowOfKind (requestKind r)) s = .next (settle (takeRequest tag r (abandoned (popped s)))) := by
  rw [exec_taken h, takenEffects_plain hk]

/-- A change of the converter state sends its notice while the list has room (R117, R166). -/
theorem changeState_sends (c : ConvState) (u : StateCause) (v : Option Valve) (h : s.port.outgoing.length < 32) :
    (s.port.outgoing ++ [.noticeState s.ctl.state c u v s.now]) <+: (changeState c u v s).port.outgoing := by
  have hgrow := (rereadConditions_grows (notifyState s.ctl.state c u v { s with ctl := { s.ctl with state := c } })).1
  rw [notifyState, notify_outgoing, if_pos h] at hgrow
  exact hgrow

/-- The notice of a change made after a reply (R117, R164). -/
theorem changeState_sends_after {m : State} {rec : OutRecord} {old : ConvState} {n : Nat} (c : ConvState) (u : StateCause)
    (v : Option Valve) (hlen : s.port.outgoing.length ≤ 16) (hm : m.port.outgoing = s.port.outgoing ++ [rec])
    (hold : m.ctl.state = old) (hnow : m.now = n) :
    (s.port.outgoing ++ [rec, .noticeState old c u v n]) <+: (changeState c u v m).port.outgoing := by
  have hsend := changeState_sends (s := m) c u v (by rw [hm, List.length_append, List.length_singleton]; omega)
  rw [hm, List.append_assoc, hold, hnow] at hsend
  exact hsend

/-! ### The setup sequence -/

/-- The checks of a setup record (R138, R139); none for a request that is no setup record. -/
def setupRefusal (r : Request) (s : State) : Option Completion :=
  match r with
  | .setupBegin => beginRefusal s
  | .setupPhase v => recordRefusal 1 (phaseInRange v) s
  | .setupAngles role v => recordRefusal 2 (role.isSome && anglesInRange v) s
  | .setupGuard v nesting => recordRefusal 3 (nesting.isSome && guardInRange v) s
  | .setupLevels v => recordRefusal 4 (levelsInRange v) s
  | .setupEnd => recordRefusal 5 true s
  | _ => none

/-- A setup record whose check fails is refused with that check's code. -/
theorem takeRequest_of_setupRefusal {tag : Nat} {r : Request} {code : Completion} (h : setupRefusal r s = some code) :
    takeRequest tag r s = refuseRecord (requestKind r) tag code s := by
  cases r <;> simp_all [setupRefusal, takeRequest, takeSetupBegin, takeSetupPhase, takeSetupAngles, takeSetupGuard,
    takeSetupLevels, takeSetupEnd, takeRecord, requestKind]

theorem takenEffects_setup {k : RequestKind} (h : isSetupRecord k = true) (s : State) : takenEffects k s = s :=
  takenEffects_keeps (by simp [h]) (by rintro rfl; cases h) s

/-- A refused setup record replies, and closes the sequence for STATE alone (R143). -/
theorem completesReplying_setup {tag : Nat} {r : Request} {code : Completion} (h : TakesRequest s tag r)
    (hk : isSetupRecord (requestKind r) = true) (hq : Quiet s) (hr : setupRefusal r (popped s) = some code) :
    CompletesReplying (rowOfKind (requestKind r)) s (.reply (requestKind r) tag code .empty)
      (if code = .state then abandoned (popped s) else popped s) := by
  refine completesReplying_of_reply h hq ?_ ?_
  · rw [takenEffects_setup hk, takeRequest_of_setupRefusal hr]
    rfl
  · rw [takenEffects_setup hk]
    split
    · exact .inr rfl
    · exact .inl rfl

/-- Away from rest every setup record is refused with STATE (R137, R138). -/
theorem setupRefusal_away {r : Request} (hk : isSetupRecord (requestKind r) = true) (h : isAtRest s.ctl.state = false) :
    setupRefusal r s = some .state := by
  have hu : s.ctl.state ≠ .unconfigured := by rintro hc; rw [hc] at h; cases h
  have hb : s.ctl.state ≠ .blocked := by rintro hc; rw [hc] at h; cases h
  cases r <;> simp_all [setupRefusal, recordRefusal, beginRefusal, requestKind, isSetupRecord]

/-- At rest a record other than SETUP_BEGIN is refused with SEQUENCE out of its turn (R139). -/
theorem setupRefusal_turn {r : Request} (hk : isSetupRecord (requestKind r) = true) (h : isAtRest s.ctl.state = true)
    (hb : requestKind r ≠ .setupBegin) (hstep : s.store.step ≠ recordStep (requestKind r)) :
    setupRefusal r s = some .sequence := by
  cases r <;> simp_all [setupRefusal, recordRefusal, requestKind, isSetupRecord, recordStep]

/-- A setup record carries a value out of range (R140). -/
def MisrangedRecord (r : Request) : Prop :=
  (∃ v, r = .setupPhase v ∧ phaseInRange v = false) ∨
    (∃ role v, r = .setupAngles role v ∧ (role = none ∨ anglesInRange v = false)) ∨
    (∃ v n, r = .setupGuard v n ∧ (n = none ∨ guardInRange v = false)) ∨
    (∃ v, r = .setupLevels v ∧ levelsInRange v = false)

/-- At rest and in its turn a record with a value out of range is refused with RANGE (R139, R140). -/
theorem setupRefusal_range {r : Request} (h : isAtRest s.ctl.state = true)
    (hstep : s.store.step = recordStep (requestKind r)) (hr : MisrangedRecord r) :
    setupRefusal r s = some .range := by
  obtain ⟨v, rfl, hv⟩ | ⟨role, v, rfl, hv⟩ | ⟨v, n, rfl, hv⟩ | ⟨v, rfl, hv⟩ := hr
  · simp_all [setupRefusal, recordRefusal, requestKind, recordStep]
  · obtain rfl | hv := hv <;> simp_all [setupRefusal, recordRefusal, requestKind, recordStep]
  · obtain rfl | hv := hv <;> simp_all [setupRefusal, recordRefusal, requestKind, recordStep]
  · simp_all [setupRefusal, recordRefusal, requestKind, recordStep]

theorem eq_setupBegin_of_kind {r : Request} (h : requestKind r = .setupBegin) : r = .setupBegin := by
  cases r <;> simp_all [requestKind]

/-- Settles O8, by the check that each setup record fails first. -/
theorem setupRecordsRefused : Obligations.SetupRecordsRefused := by
  intro s tag r h hk k
  refine ⟨fun haway hq => ?_, fun hrest => ⟨fun hb hblocked hact => ?_, fun hb hfree hstep => ?_, fun hb hstep => ?_,
    fun hstep hrange => ?_⟩⟩
  · exact completesReplying_setup h hk hq (setupRefusal_away hk haway)
  · obtain rfl := eq_setupBegin_of_kind hb
    refine completesReplying_setup h hk (quiet_of_isAtRest hrest) (code := .state) ?_
    have hb1 : (popped s).ctl.state = .blocked := hblocked
    have ha1 : (popped s).prot.inAction ≠ [] := hact
    simp [setupRefusal, beginRefusal, hb1, ha1]
  · obtain rfl := eq_setupBegin_of_kind hb
    refine completesReplying_setup h hk (quiet_of_isAtRest hrest) (code := .sequence) ?_
    have hopen : (popped s).ctl.state = .unconfigured ∨ ((popped s).ctl.state = .blocked ∧ (popped s).prot.inAction = []) := by
      obtain hc | ha := hfree
      · exact .inl hc
      · by_cases hc : s.ctl.state = .blocked
        · exact .inr ⟨hc, ha⟩
        · exact .inl (eq_unconfigured_of_isAtRest hrest hc)
    have hs1 : (popped s).store.step ≠ 0 := hstep
    simp [setupRefusal, beginRefusal, hopen, hs1]
  · exact completesReplying_setup h hk (quiet_of_isAtRest hrest) (setupRefusal_turn hk hrest hb hstep)
  · exact completesReplying_setup h hk (quiet_of_isAtRest hrest) (setupRefusal_range hrest hstep hrange)

/-- Settles O5: the defaults in force, then the change from BLOCKED with its notice, then step 1. -/
theorem setupBeginLoadsDefaults : Obligations.SetupBeginLoadsDefaults := by
  intro s tag h hstep hopen
  have hrest : isAtRest (popped s).ctl.state = true := by
    obtain hc | ⟨hc, -⟩ := hopen <;> rw [show (popped s).ctl.state = _ from hc] <;> rfl
  have hnone : beginRefusal (popped s) = none := by
    have hopen' : (popped s).ctl.state = .unconfigured ∨ ((popped s).ctl.state = .blocked ∧ (popped s).prot.inAction = []) :=
      hopen
    have hstep' : (popped s).store.step = 0 := hstep
    rw [beginRefusal, if_pos hopen', if_pos hstep']
  have hbody : takeRequest tag .setupBegin (takenEffects .setupBegin (popped s)) =
      beginSetup (accept .setupBegin tag (popped s)) := by
    rw [takenEffects_setup rfl, takeRequest, takeSetupBegin, hnone]
  have hsame := beginSetup_same (s := accept .setupBegin tag (popped s)) hrest
  have hexec : exec .setupBegin s = .next (settle (beginSetup (accept .setupBegin tag (popped s)))) :=
    (exec_taken h).trans (by rw [← hbody]; rfl)
  refine completesSending_of hexec (SameButResolver.trans ?_ hsame) ?_ ?_
  · rfl
  · exact quiet_of_isAtRest (by rw [hsame.ctl]; rfl)
  · have hload := loadDefaults_same (accept .setupBegin tag (popped s))
    have hout : (loadDefaults (accept .setupBegin tag (popped s))).port.outgoing =
        s.port.outgoing ++ [.reply .setupBegin tag .done .empty] := by
      rw [loadDefaults_port]
      rfl
    have hstate : (loadDefaults (accept .setupBegin tag (popped s))).ctl.state = s.ctl.state := by rw [hload.ctl]; rfl
    have hnow : (loadDefaults (accept .setupBegin tag (popped s))).now = s.now := by rw [hload.now]; rfl
    have hsend := changeState_sends_after (s := s) .unconfigured .setupBegin none h.2 hout hstate hnow
    simp only [beginSetup, hstate]
    split
    · rename_i hb
      rw [hb] at hsend
      exact hsend
    · exact ⟨[], (List.append_nil _).trans hout.symm⟩

/-- An accepted record of the sequence: its values put in force after the reply, and the step raised (R139). -/
theorem exec_record {tag n : Nat} {r : Request} {put : State → State} (h : TakesRequest s tag r)
    (hk : isSetupRecord (requestKind r) = true) (hstep : s.store.step = n)
    (htake : takeRequest tag r (popped s) = takeRecord (requestKind r) tag none put (popped s)) :
    exec (rowOfKind (requestKind r)) s =
      .next (settle (withStep (n + 1) (put (accept (requestKind r) tag (popped s))))) := by
  have hstep' : (popped s).store.step = n := hstep
  rw [exec_taken h, takenEffects_setup hk, htake, takeRecord, hstep']

/-- The completion of an accepted record whose values leave the converter state and the port. -/
theorem completesReplying_record {tag n : Nat} {r : Request} {put : State → State} {u : State} (h : TakesRequest s tag r)
    (hk : isSetupRecord (requestKind r) = true) (hrest : isAtRest s.ctl.state = true) (hstep : s.store.step = n)
    (htake : takeRequest tag r (popped s) = takeRecord (requestKind r) tag none put (popped s))
    (hctl : (put (accept (requestKind r) tag (popped s))).ctl = s.ctl)
    (hport : ∀ x, (put x).port = x.port)
    (hs : SameButResolver u (withStep (n + 1) (put (accept (requestKind r) tag (popped s))))) :
    CompletesReplying (rowOfKind (requestKind r)) s (.reply (requestKind r) tag .done .empty) u := by
  refine completesReplying_of (exec_record h hk hstep htake) hs ?_ ?_
  · refine quiet_of_isAtRest ?_
    change isAtRest (put _).ctl.state = true
    rwa [hctl]
  · change _ <+: (put _).port.outgoing
    rw [hport]
    exact List.prefix_rfl

/-- At rest, in its turn and in range no check fails (R139). -/
theorem recordRefusal_none {n : Nat} (hrest : isAtRest s.ctl.state = true) (hstep : s.store.step = n) :
    recordRefusal n true s = none := by
  rw [recordRefusal, if_pos hrest, if_pos hstep]
  rfl

/-- Settles O6: each record's values with the effects that its rule gives them. -/
theorem setupRecordsAccepted : Obligations.SetupRecordsAccepted := by
  intro s tag hrest
  refine ⟨fun v h hstep hv => ?_, fun role v h hstep hv => ?_, fun v n h hstep hv => ?_, fun v h hstep hv => ?_⟩
  · refine completesReplying_record (put := putPhase v) h rfl hrest hstep ?_ rfl (fun _ => rfl) rfl
    rw [takeRequest, takeSetupPhase, hv, recordRefusal_none (s := popped s) hrest hstep]
    rfl
  · refine completesReplying_record (put := putAngles role v) h rfl hrest hstep ?_ rfl (fun _ => rfl) rfl
    rw [takeRequest, takeSetupAngles, hv]
    simp only [Option.isSome_some, Bool.and_self, recordRefusal_none (s := popped s) hrest hstep]
    rfl
  · refine completesReplying_record (put := putGuard v n) h rfl hrest hstep ?_ ?_ (fun _ => by simp [putGuard]) ?_
    · rw [takeRequest, takeSetupGuard, hv]
      simp only [Option.isSome_some, Bool.and_self, recordRefusal_none (s := popped s) hrest hstep]
      rfl
    · rw [putGuard, (resortOnNesting_same _ _).ctl, followBoost_eq]
      rfl
    · refine SameButResolver.trans ?_ (withStep_congr 4 (resortOnNesting_same _ _))
      rw [followBoost_eq]
      rfl
  · refine completesReplying_record (put := putLevels v) h rfl hrest hstep ?_ ?_ (fun _ => by simp [putLevels]) ?_
    · rw [takeRequest, takeSetupLevels, hv, recordRefusal_none (s := popped s) hrest hstep]
      rfl
    · rw [putLevels, formOnChange_eq]
      rfl
    · rw [putLevels, formOnChange_eq]
      rfl

/-- Settles O7: step 0, and the change from UNCONFIGURED with its notice. -/
theorem setupEndLeadsToBlocked : Obligations.SetupEndLeadsToBlocked := by
  intro s tag h hrest hstep
  have hbody : takeRequest tag .setupEnd (takenEffects .setupEnd (popped s)) = endSetup (accept .setupEnd tag (popped s)) := by
    rw [takenEffects_setup rfl, takeRequest, takeSetupEnd, recordRefusal_none (s := popped s) hrest hstep]
  have hexec : exec .setupEnd s = .next (settle (endSetup (accept .setupEnd tag (popped s)))) :=
    (exec_taken h).trans (by rw [← hbody]; rfl)
  have hsame := endSetup_same (s := accept .setupEnd tag (popped s)) hrest
  refine completesSending_of hexec (SameButResolver.trans ?_ hsame) ?_ ?_
  · rfl
  · exact quiet_of_isAtRest (by rw [hsame.ctl]; rfl)
  · have hstate : (withStep 0 (accept .setupEnd tag (popped s))).ctl.state = s.ctl.state := rfl
    have hsend := changeState_sends_after (s := s) .blocked .setupEnd none h.2 rfl hstate rfl
    simp only [endSetup, hstate]
    split
    · rename_i hu
      rw [hu] at hsend
      exact hsend
    · exact List.prefix_rfl

end Sys2Proof.Machine


/-! PROOF. What the close of an event keeps of the resolver: one induction over its re-readings and grants (R101, R102). -/

namespace Sys2Proof.Machine

variable {s t : State}

/-- What holds of the resolver through the close of an event: `J` reads the resolver and the store alone, and every operation of
which a re-reading or a grant is made keeps it. -/
structure CloseKept (J : State → Prop) : Prop where
  frame : ∀ {s t : State}, t.prot = s.prot → t.store = s.store → J s → J t
  becomesPending : ∀ (src : Source) (s : State), isEdgeSource src = false → isInAction s src = false → J s →
    J (makePending src s)
  withdrawn : ∀ (src : Source) (s : State), isEdgeSource src = false → J s → J (withdraw src s)
  cleared : ∀ (src : Source) (s : State), isClearedSource src = true → isInAction s src = true → J s →
    J (endSource src .cleared s)
  moved : ∀ (src : Source) (s : State), nextGrant s = some src → src ≠ .valveTrip → J s → J (moveToAction src s)
  tripped : ∀ s : State, nextGrant s = some .valveTrip → J s →
    J { moveToAction .valveTrip s with prot := { (moveToAction .valveTrip s).prot with tripLine := true } }
  timed : ∀ (src : Source) (s : State) (x : Option Nat), nextGrant s = some src →
    src = .commutationFail ∨ src = .refireLimit → J s →
    J { moveToAction src s with prot := setActionTimer src x (moveToAction src s).prot }
  timedOut : ∀ (src : Source) (s : State) (x : Option Nat), nextGrant s = some src →
    actionDuration s.store.setup.guard src = some 0 → J s →
    J (endSource src .timed { moveToAction src s with prot := setActionTimer src x (moveToAction src s).prot })

section
variable {J : State → Prop}

theorem CloseKept.rereadOne (k : CloseKept J) (h : J s) (src : Source) (he : isEdgeSource src = false) :
    J (rereadOne src s) := by
  unfold Machine.rereadOne
  split
  · split
    · exact h
    · rename_i hi
      exact k.becomesPending src s he (by simpa using hi) h
  · split
    · rename_i hi
      split
      · rename_i hk
        exact k.cleared src s hk hi h
      · exact h
    · exact k.withdrawn src s he h

theorem CloseKept.rereadConditions (k : CloseKept J) (h : J s) : J (rereadConditions s) := by
  simp only [Machine.rereadConditions, List.foldl]
  exact k.rereadOne (k.rereadOne (k.rereadOne (k.rereadOne (k.rereadOne h _ rfl) _ rfl) _ rfl) _ rfl) _ rfl

theorem CloseKept.changeState (k : CloseKept J) {u : State} (hp : u.prot = s.prot) (hs : u.store = s.store) (h : J s)
    (c : ConvState) (cause : StateCause) (v : Option Valve) : J (Machine.changeState c cause v u) :=
  k.rereadConditions (k.frame (by simp [hp]) (by simp [hs]) h)

theorem CloseKept.enterBlocked (k : CloseKept J) (h : J s) (cause : StateCause) (v : Option Valve) :
    J (Machine.enterBlocked cause v s) := by
  simp only [Machine.enterBlocked]
  refine k.changeState (s := s) ?_ ?_ h .blocked cause v
  · rfl
  · rfl

theorem CloseKept.enterBypass (k : CloseKept J) (h : J s) (cause : StateCause) : J (Machine.enterBypass cause s) := by
  simp only [Machine.enterBypass]
  exact k.changeState (s := s) (by simp) (by simp) h .bypass cause none

theorem CloseKept.enterRetard (k : CloseKept J) (h : J s) (cause : StateCause) : J (Machine.enterRetard cause s) := by
  simp only [Machine.enterRetard]
  have first : J (Machine.changeState .retard cause none { s with ctl := { s.ctl with
      retardTimer := some (s.now + msTicks s.store.setup.guard.retardTime) } }) := by
    refine k.changeState (s := s) ?_ ?_ h .retard cause none
    · rfl
    · rfl
  split
  · exact k.enterBlocked first .retardEnd none
  · exact first

theorem CloseKept.stopDemand (k : CloseKept J) (h : J s) (src : Source) : J (stopDemand src s) := by
  unfold Machine.stopDemand
  split
  · split
    · exact k.enterBypass h _
    · exact k.enterRetard h _
  · exact k.enterBlocked h _ _
  · exact k.enterBlocked h _ _
  · exact k.enterBlocked h _ _
  · exact h
  · exact h
  · exact h
  · exact h

theorem CloseKept.grantOne (k : CloseKept J) (h : J s) {src : Source} (hg : nextGrant s = some src) :
    J (grantOne src s) := by
  have alarm : src ≠ .valveTrip → J (startTimed src (moveToAction src s)) := by
    intro hne
    unfold startTimed
    split
    · rename_i d hd
      rw [moveToAction_store] at hd
      dsimp only
      split
      · rename_i h0
        rw [h0] at hd
        exact k.timedOut src s _ hg hd h
      · refine k.timed src s _ hg ?_ h
        cases src <;> simp_all [actionDuration]
    · exact k.moved src s hg hne h
  unfold Machine.grantOne startAction
  cases src with
  | valveTrip => exact k.stopDemand (k.tripped s hg h) _
  | phaseLost => exact k.stopDemand (k.moved _ s hg (by decide) h) _
  | linkLost => exact k.stopDemand (k.moved _ s hg (by decide) h) _
  | commutationFail => exact alarm (by decide)
  | refireLimit => exact alarm (by decide)
  | measureStale => exact alarm (by decide)
  | levelDegraded => exact alarm (by decide)
  | orderStale => exact alarm (by decide)

theorem CloseKept.grantLoop (k : CloseKept J) (n : Nat) (s : State) (h : J s) : J (grantLoop n s) := by
  induction n generalizing s with
  | zero => exact h
  | succ n ih =>
    unfold Machine.grantLoop
    split
    · rename_i src hg
      exact ih _ (k.grantOne h hg)
    · exact h

/-- What every operation of the close keeps, the close keeps. -/
theorem CloseKept.settle (k : CloseKept J) (h : J s) : J (settle s) := k.grantLoop 32 _ (k.rereadConditions h)

end

/-! ### The masks and the CF run -/

/-- The masks, the CF run and its window stand (R110, R111). -/
def RunKept (p : Resolver) (s : State) : Prop :=
  s.prot.masks = p.masks ∧ s.prot.cfRun = p.cfRun ∧ s.prot.runWindow = p.runWindow

theorem endSource_run {p : Resolver} {src : Source} {c : EndCause} (h : RunKept p s) : RunKept p (endSource src c s) := by
  unfold RunKept
  rw [endSource_prot]
  cases src <;> exact h

theorem runKept_close (p : Resolver) : CloseKept (RunKept p) where
  frame hp _ h := by
    unfold RunKept
    rw [hp]
    exact h
  becomesPending _ _ _ _ h := h
  withdrawn _ _ _ h := h
  cleared _ _ _ _ h := endSource_run h
  moved src s _ _ h := by
    unfold RunKept
    rw [moveToAction_prot]
    exact h
  tripped s _ h := by
    unfold RunKept
    rw [moveToAction_prot]
    exact h
  timed src s x _ _ h := by
    unfold RunKept
    rw [moveToAction_prot]
    cases src <;> exact h
  timedOut src s x _ _ h := by
    refine endSource_run ?_
    unfold RunKept
    rw [moveToAction_prot]
    cases src <;> exact h

/-- No grant touches the masks, the CF run or its window. -/
theorem settle_run (s : State) : RunKept s.prot (settle s) := (runKept_close s.prot).settle ⟨rfl, rfl, rfl⟩

/-! ### A source that stays idle -/

/-- The source is neither pending nor in action (R99). -/
def Idle (src : Source) (s : State) : Prop := isPending s src = false ∧ isInAction s src = false

/-- VALVE_TRIP is idle, and its line is released (R106). -/
def Released (s : State) : Prop := Idle .valveTrip s ∧ s.prot.tripLine = false

theorem Idle.ne_of_granted {a b : Source} (h : Idle b s) (hg : nextGrant s = some a) : a ≠ b := by
  rintro rfl
  rw [Idle, nextGrant_pending hg] at h
  cases h.1

theorem Idle.moved {a b : Source} (h : Idle b s) (hab : a ≠ b) : Idle b (moveToAction a s) := by
  simpa [Idle, hab] using h

theorem Idle.ended {a b : Source} (h : Idle b s) (hab : a ≠ b) (c : EndCause) : Idle b (endSource a c s) := by
  simpa [Idle, hab, hab.symm] using h

theorem Idle.of_prot {b : Source} (h : Idle b s) (hw : t.prot.waiting = s.prot.waiting)
    (ha : t.prot.inAction = s.prot.inAction) : Idle b t := by
  rw [Idle, isPending_congr hw, isInAction_congr ha]
  exact h

theorem setActionTimer_waiting (src : Source) (x : Option Nat) (p : Resolver) :
    (setActionTimer src x p).waiting = p.waiting := by cases src <;> rfl

theorem setActionTimer_inAction (src : Source) (x : Option Nat) (p : Resolver) :
    (setActionTimer src x p).inAction = p.inAction := by cases src <;> rfl

theorem setActionTimer_repeats (src : Source) (x : Option Nat) (p : Resolver) :
    (setActionTimer src x p).repeats = p.repeats := by cases src <;> rfl

theorem setActionTimer_tripLine (src : Source) (x : Option Nat) (p : Resolver) :
    (setActionTimer src x p).tripLine = p.tripLine := by cases src <;> rfl

theorem idle_close {b : Source} (hb : isEdgeSource b = true) : CloseKept (Idle b) where
  frame hp _ h := h.of_prot (by rw [hp]) (by rw [hp])
  becomesPending src s he _ h := by
    have hne : src ≠ b := by rintro rfl; rw [he] at hb; cases hb
    simpa [Idle, hne] using h
  withdrawn src s he h := by
    have hne : src ≠ b := by rintro rfl; rw [he] at hb; cases hb
    simpa [Idle, hne] using h
  cleared src s hk hi h := h.ended (by rintro rfl; rw [isClearedSource_not_edge hk] at hb; cases hb) _
  moved src s hg _ h := h.moved (h.ne_of_granted hg)
  tripped s hg h := (h.moved (h.ne_of_granted hg)).of_prot rfl rfl
  timed src s x hg _ h :=
    (h.moved (h.ne_of_granted hg)).of_prot (setActionTimer_waiting ..) (setActionTimer_inAction ..)
  timedOut src s x hg _ h :=
    ((h.moved (h.ne_of_granted hg)).of_prot (setActionTimer_waiting ..) (setActionTimer_inAction ..)).ended
      (h.ne_of_granted hg) _

/-- An edge source that is idle stays so through the close of an event: only an edge makes it pending (R100). -/
theorem Idle.settle {b : Source} (hb : isEdgeSource b = true) (h : Idle b s) : Idle b (settle s) :=
  (idle_close hb).settle h

theorem released_close : CloseKept Released where
  frame hp hs h := ⟨(idle_close rfl).frame hp hs h.1, by rw [hp]; exact h.2⟩
  becomesPending src s he hi h := ⟨(idle_close rfl).becomesPending src s he hi h.1, h.2⟩
  withdrawn src s he h := ⟨(idle_close rfl).withdrawn src s he h.1, h.2⟩
  cleared src s hk hi h := ⟨(idle_close rfl).cleared src s hk hi h.1, by rw [endSource_prot]; simp [h.2]⟩
  moved src s hg hne h := ⟨(idle_close rfl).moved src s hg hne h.1, by rw [moveToAction_prot]; exact h.2⟩
  tripped s hg h := absurd rfl (h.1.ne_of_granted hg)
  timed src s x hg hk h := ⟨(idle_close rfl).timed src s x hg hk h.1, by
    simpa [setActionTimer_tripLine, moveToAction_prot] using h.2⟩
  timedOut src s x hg hd h := ⟨(idle_close rfl).timedOut src s x hg hd h.1, by
    rw [endSource_prot]
    simp [setActionTimer_tripLine, moveToAction_prot, h.2]⟩

theorem Released.settle (h : Released s) : Released (settle s) := released_close.settle h

/-! ### Quiet states -/

/-- A grant of a quiet state moves nothing but the resolver, and leaves it quiet. -/
theorem Quiet.grantOne (h : Quiet s) {src : Source} (hg : nextGrant s = some src) :
    SameButResolver s (grantOne src s) ∧ Quiet (Machine.grantOne src s) := by
  obtain hcalm | hun := h
  · have hp := nextGrant_pending hg
    obtain ⟨a, b, c, d, e⟩ := hcalm
    have h1 : src ≠ .valveTrip := by rintro rfl; simp_all
    have h2 : src ≠ .phaseLost := by rintro rfl; simp_all
    have h3 : src ≠ .linkLost := by rintro rfl; simp_all
    have hsame := grantOne_calm (s := s) src h1 h2 h3
    refine ⟨hsame, .inl ⟨?_, ?_, ?_, ?_, ?_⟩⟩
    · exact grantOne_leavesIdle src _ (.inl rfl) h1 h2 h3 a
    · exact grantOne_leavesIdle src _ (.inr (.inl rfl)) h1 h2 h3 b
    · exact grantOne_leavesIdle src _ (.inr (.inr rfl)) h1 h2 h3 c
    · rw [hsame.conditionHolds]; exact d
    · rw [hsame.conditionHolds]; exact e
  · have hsame := grantOne_same s src hun
    exact ⟨hsame, .inr (by rw [hsame.ctl]; exact hun)⟩

/-- A stop demand that finds the converter where no stop demand moves it changes nothing (R127). -/
theorem stopDemand_of_unmoved (src : Source) (h : Unmoved s.ctl.state) : stopDemand src s = s := by
  obtain ⟨-, heq⟩ | ⟨hc, -⟩ | ⟨hc, -⟩ := stopDemand_cases src s
  · exact heq
  · rcases hc with hc | hc | hc <;> simp [Unmoved, hc] at h
  · simp [Unmoved, hc] at h

theorem Idle.startTimed {a b : Source} (h : Idle b s) (hab : a ≠ b) : Idle b (startTimed a s) := by
  unfold Machine.startTimed
  split
  · dsimp only
    split
    · exact Idle.ended (h.of_prot (setActionTimer_waiting ..) (setActionTimer_inAction ..)) hab _
    · exact h.of_prot (setActionTimer_waiting ..) (setActionTimer_inAction ..)
  · exact h

/-- In a quiet state a source without a condition stays idle through a grant. -/
theorem Idle.grantOne {a b : Source} (h : Idle b s) (hq : Quiet s) (hg : nextGrant s = some a) :
    Idle b (grantOne a s) := by
  have hmoved := h.moved (h.ne_of_granted hg)
  have stop : ∀ u : State, u.ctl = s.ctl → isPending s a = true → a = .valveTrip ∨ a = .phaseLost ∨ a = .linkLost →
      Idle b u → Idle b (Machine.stopDemand a u) := by
    intro u hu hp ha hidle
    obtain hcalm | hun := hq
    · obtain ⟨h1, h2, h3, -, -⟩ := hcalm
      obtain rfl | rfl | rfl := ha <;> simp_all
    · rwa [stopDemand_of_unmoved a (by rwa [hu])]
  unfold Machine.grantOne startAction
  have hp := nextGrant_pending hg
  cases a with
  | valveTrip => exact stop _ (by simp) hp (by simp) (hmoved.of_prot rfl rfl)
  | phaseLost => exact stop _ (by simp) hp (by simp) hmoved
  | linkLost => exact stop _ (by simp) hp (by simp) hmoved
  | commutationFail => exact hmoved.startTimed (h.ne_of_granted hg)
  | refireLimit => exact hmoved.startTimed (h.ne_of_granted hg)
  | measureStale => exact hmoved.startTimed (h.ne_of_granted hg)
  | levelDegraded => exact hmoved.startTimed (h.ne_of_granted hg)
  | orderStale => exact hmoved.startTimed (h.ne_of_granted hg)

theorem Idle.rereadOne {a b : Source} (h : Idle b s) (hc : conditionHolds s b = false) : Idle b (rereadOne a s) := by
  by_cases hab : a = b
  · subst hab
    unfold Machine.rereadOne
    simp [hc, h.2, Idle]
  · rw [Idle, isPending_rereadOne_of_ne hab, isInAction_rereadOne_of_ne hab]
    exact h

/-- In a quiet state a source whose condition does not hold stays idle through the close of an event (R101). -/
theorem Idle.settle_of_quiet {b : Source} (h : Idle b s) (hq : Quiet s) (hc : conditionHolds s b = false) :
    Idle b (Machine.settle s) := by
  have one : ∀ (a : Source) (u : State), Idle b u ∧ conditionHolds u b = false →
      Idle b (Machine.rereadOne a u) ∧ conditionHolds (Machine.rereadOne a u) b = false := fun a u hu =>
    ⟨hu.1.rereadOne hu.2, by rw [conditionHolds_rereadOne]; exact hu.2⟩
  have loop : ∀ (n : Nat) (u : State), Idle b u → Quiet u → Idle b (grantLoop n u) := by
    intro n
    induction n with
    | zero => exact fun u hu _ => hu
    | succ n ih =>
      intro u hu hqu
      unfold grantLoop
      split
      · rename_i a hg
        exact ih _ (hu.grantOne hqu hg) (hqu.grantOne hg).2
      · exact hu
  refine loop 32 _ ?_ ?_
  · simp only [Machine.rereadConditions, List.foldl]
    exact (one _ _ (one _ _ (one _ _ (one _ _ (one _ _ ⟨h, hc⟩))))).1
  · obtain hcalm | hun := hq
    · exact .inl (rereadConditions_calm hcalm)
    · exact .inr (by simpa using hun)

end Sys2Proof.Machine


/-! PROOF. The requests of the Table Store's tables, BLOCK, the angle order, PHASE_RESTART and PROT_MASK (R144 to R148, R124, R22,
R17, R111). -/

namespace Sys2Proof.Machine

variable {s t : State}

/-- A plain request that is carried out by a reply on a changed state completes with it. -/
theorem completesReplying_done {tag : Nat} {r : Request} {code : Completion} {x : Content} {u : State}
    (h : TakesRequest s tag r) (hk : isPlain (requestKind r) = true) (hq : Quiet u)
    (hout : u.port.outgoing = s.port.outgoing)
    (hr : takeRequest tag r (abandoned (popped s)) = reply (requestKind r) tag code x u) :
    CompletesReplying (rowOfKind (requestKind r)) s (.reply (requestKind r) tag code x) u := by
  refine completesReplying_of (exec_plain h hk) ?_ ?_ ?_
  · rw [hr]
    rfl
  · rw [hr]
    exact hq.congr rfl rfl rfl rfl
  · rw [hr, ← hout]
    exact List.prefix_rfl

/-! ### Tables -/

/-- Settles O9, by each write's own rule at rest. -/
theorem storeWritesAccepted : Obligations.StoreWritesAccepted := by
  intro s tag hrest
  have hrest' : isAtRest (abandoned (popped s)).ctl.state = true := hrest
  refine ⟨fun row hrow entries h he => ?_, fun y d h hmap hlock => ?_, fun h => ?_⟩
  · refine completesReplying_done h rfl (quiet_of_isAtRest hrest) rfl ?_
    have hin : ¬(32 < row || entries.toList.any fun e => decide (9000 < e)) = true := by
      simp only [Bool.or_eq_true, decide_eq_true_eq, List.any_eq_true, not_or, not_exists, not_and, not_lt]
      exact ⟨Nat.le_of_lt_succ hrow, he⟩
    have hset : (abandoned (popped s)).store.table.setIfInBounds row ⟨true, entries⟩ =
        s.store.table.set row ⟨true, entries⟩ := by
      exact Vector.toArray_inj.mp (Array.setIfInBounds_def .. |>.trans (dif_pos (by simpa [abandoned, popped] using hrow)))
    simp only [takeRequest, takeTableWrite, hrest', Bool.not_true, Bool.false_eq_true, if_false, if_neg hin, writeRow, hset]
    rfl
  · refine completesReplying_done h rfl (quiet_of_isAtRest hrest) rfl ?_
    have hlock' : (abandoned (popped s)).store.mapLock = false := hlock
    rw [takeRequest, takeMapWrite, if_neg (by simp [hrest']), if_neg (by simp [hlock']), if_neg (by simp [hmap])]
    rfl
  · refine completesReplying_done h rfl (quiet_of_isAtRest hrest) rfl ?_
    simp only [takeRequest, takeMapLock, hrest', Bool.not_true, Bool.false_eq_true, if_false]
    rfl

/-- Away from rest every write of the tables is refused with STATE (R137). -/
theorem takeRequest_write_away {tag : Nat} {r : Request}
    (hk : requestKind r = .tableWrite ∨ requestKind r = .mapWrite ∨ requestKind r = .mapLock)
    (h : isAtRest s.ctl.state = false) : takeRequest tag r s = refuse (requestKind r) tag .state s := by
  cases r <;> simp_all [requestKind, takeRequest, takeTableWrite, takeMapWrite, takeMapLock]

/-- Settles O10, by the first check of each write that fails. -/
theorem storeWritesRefused : Obligations.StoreWritesRefused := by
  intro s tag
  refine ⟨fun r h hk haway hq => ?_, fun hrest => ⟨fun row entries h hout => ?_, fun y d h => ⟨fun hlock => ?_, fun hlock hmap => ?_⟩⟩⟩
  · have hplain : isPlain (requestKind r) = true := by obtain hk | hk | hk := hk <;> rw [hk] <;> rfl
    exact completesReplying_plain h hplain hq (takeRequest_write_away (s := abandoned (popped s)) hk haway)
  all_goals have hrest' : isAtRest (abandoned (popped s)).ctl.state = true := hrest
  · refine completesReplying_plain h rfl (quiet_of_isAtRest hrest) ?_
    have hrange : (32 < row || entries.toList.any fun e => decide (9000 < e)) = true := by
      simp only [Bool.or_eq_true, decide_eq_true_eq, List.any_eq_true]
      exact hout
    rw [takeRequest, takeTableWrite, if_neg (by simp [hrest']), if_pos hrange]
    rfl
  · refine completesReplying_plain h rfl (quiet_of_isAtRest hrest) ?_
    have hlock' : (abandoned (popped s)).store.mapLock = true := hlock
    rw [takeRequest, takeMapWrite, if_neg (by simp [hrest']), if_pos hlock']
    rfl
  · refine completesReplying_plain h rfl (quiet_of_isAtRest hrest) ?_
    have hlock' : (abandoned (popped s)).store.mapLock = false := hlock
    rw [takeRequest, takeMapWrite, if_neg (by simp [hrest']), if_neg (by simp [hlock']), if_pos (by simp [hmap])]
    rfl

/-! ### BLOCK -/

/-- The notice of an entry to BLOCKED made after a reply (R125, R117). -/
theorem enterBlocked_sends_after {m : State} {rec : OutRecord} {old : ConvState} {n : Nat} (u : StateCause)
    (v : Option Valve) (hlen : s.port.outgoing.length ≤ 16) (hm : m.port.outgoing = s.port.outgoing ++ [rec])
    (hold : m.ctl.state = old) (hnow : m.now = n) :
    (s.port.outgoing ++ [rec, .noticeState old .blocked u v n]) <+: (enterBlocked u v m).port.outgoing := by
  simp only [enterBlocked]
  exact changeState_sends_after .blocked u v hlen hm hold hnow

/-- Settles O15: the entry to BLOCKED after the reply, and the reply alone where the converter stays. -/
theorem blockLeadsToBlocked : Obligations.BlockLeadsToBlocked := by
  intro s tag h
  refine ⟨fun hg => ?_, fun hb => ?_, fun hu => ?_⟩
  · have hbody : takeRequest tag .block (abandoned (popped s)) =
        enterBlocked .block none (accept .block tag (abandoned (popped s))) := by
      have hu : (abandoned (popped s)).ctl.state ≠ .unconfigured := by
        intro hc
        rw [show s.ctl.state = _ from hc] at hg
        cases hg
      have hb : (abandoned (popped s)).ctl.state ≠ .blocked := by
        intro hc
        rw [show s.ctl.state = _ from hc] at hg
        cases hg
      rw [takeRequest, takeBlock]
      split
      · rename_i hc
        exact absurd hc hu
      · rename_i hc
        exact absurd hc hb
      · rfl
    have hexec : exec .block s = .next (settle (enterBlocked .block none (accept .block tag (abandoned (popped s))))) := by
      rw [← hbody]
      exact exec_plain h rfl
    have hsame := enterBlocked_same .block none (accept .block tag (abandoned (popped s)))
    refine completesSending_of hexec (SameButResolver.trans ?_ hsame) ?_ ?_
    · rfl
    · exact quiet_of_isAtRest (by rw [hsame.ctl]; rfl)
    · exact enterBlocked_sends_after .block none h.2 rfl rfl rfl
  · refine completesReplying_plain h rfl (quiet_of_isAtRest (by rw [hb]; rfl)) ?_
    have hb' : (abandoned (popped s)).ctl.state = .blocked := hb
    simp only [takeRequest, takeBlock, hb']
    rfl
  · refine completesReplying_plain h rfl (quiet_of_isAtRest (by rw [hu]; rfl)) ?_
    have hu' : (abandoned (popped s)).ctl.state = .unconfigured := hu
    simp only [takeRequest, takeBlock, hu']
    rfl

/-! ### The angle order and PHASE_RESTART -/

/-- Settles O18: the order timer restarts at the taking, whatever the request's own rule then does. -/
theorem angleOrderPends : Obligations.AngleOrderPends := by
  intro s tag alpha h hq timed
  have hexec : ∀ m, takeAngleOrder tag alpha timed = m → exec .angleOrder s = .next (settle m) := by
    rintro m rfl
    exact exec_taken h
  refine ⟨fun hle => ?_, fun hgt => ?_⟩
  · have htake : takeAngleOrder tag alpha timed = takeAngle alpha (accept .angleOrder tag timed) := by
      rw [takeAngleOrder, if_neg (Nat.not_lt.mpr hle)]
    refine ⟨fun hnone => ?_, fun w hsome => ?_⟩
    · refine completesReplying_of (hexec _ htake) ?_ (hq.congr rfl rfl rfl rfl) List.prefix_rfl
      have hwait : (accept .angleOrder tag timed).acu.waiting = none := hnone
      rw [takeAngle, hwait]
      rfl
    · refine completesReplying_of (hexec _ htake) ?_ (hq.congr rfl rfl rfl rfl) List.prefix_rfl
      have hwait : (accept .angleOrder tag timed).acu.waiting = some w := hsome
      rw [takeAngle, hwait]
      rfl
  · refine completesReplying_of (hexec (refuse .angleOrder tag .range timed) ?_) rfl (hq.congr rfl rfl rfl rfl)
      List.prefix_rfl
    rw [takeAngleOrder, if_pos hgt]

/-- Settles O19, by the state in which the request is taken. -/
theorem phaseRestartAtRest : Obligations.PhaseRestartAtRest := by
  intro s tag h
  refine ⟨fun hrest => ?_, fun haway hq => ?_⟩
  · have hrest' : isAtRest (abandoned (popped s)).ctl.state = true := hrest
    have hbody : takeRequest tag .phaseRestart (abandoned (popped s)) =
        restartPhase (accept .phaseRestart tag (abandoned (popped s))) := by
      rw [takeRequest, takePhaseRestart, if_pos hrest']
    refine completesReplying_of (m := takeRequest tag .phaseRestart (abandoned (popped s))) (exec_plain h rfl) ?_ ?_ ?_
    · rw [hbody]
      rfl
    · rw [hbody]
      exact quiet_of_isAtRest hrest
    · rw [hbody]
      exact List.prefix_rfl
  · refine completesReplying_plain h rfl hq ?_
    have haway' : isAtRest (abandoned (popped s)).ctl.state = false := haway
    simp only [takeRequest, takePhaseRestart, haway', Bool.false_eq_true, if_false]
    rfl

/-! ### PROT_MASK -/

theorem hasSource_sourcesOfNumbers (ns : List Nat) (src : Source) :
    hasSource (sourcesOfNumbers ns) src = ns.contains (sourceNumber src) := by
  cases src <;> rfl

/-- Settles O20: the close of the event leaves the masks as the request's own rule leaves them. -/
theorem protMaskReplacesTheSet : Obligations.ProtMaskReplacesTheSet := by
  intro s tag sources h hq
  have hexec : ∀ m, takeProtMask tag sources (abandoned (popped s)) = m → exec .protMask s = .next (settle m) := by
    rintro m rfl
    exact exec_plain h rfl
  refine ⟨fun hin => ?_, fun hout => ?_⟩
  · have hrange : ¬(sources.any fun n => decide (7 < n) || decide (n ≤ 2)) = true := by
      simp only [List.any_eq_true, Bool.or_eq_true, decide_eq_true_eq, not_exists, not_and, not_or, not_lt, not_le]
      exact fun n hn => ⟨(hin n hn).2, (hin n hn).1⟩
    refine ⟨_, hexec _ (by rw [takeProtMask, if_neg hrange]), ?_, ?_, fun src => ?_⟩
    · refine SameButResolver.trans ?_ (settle_quiet (hq.congr rfl rfl rfl rfl))
      rfl
    · exact settle_sends List.prefix_rfl
    · rw [(settle_run _).1]
      exact hasSource_sourcesOfNumbers sources src
  · have hrange : (sources.any fun n => decide (7 < n) || decide (n ≤ 2)) = true := by
      obtain ⟨n, hn, hlt⟩ := hout
      refine List.any_eq_true.mpr ⟨n, hn, ?_⟩
      simp only [Bool.or_eq_true, decide_eq_true_eq]
      omega
    refine ⟨_, hexec _ (by rw [takeProtMask, if_pos hrange]), ?_, ?_, ?_⟩
    · refine SameButResolver.trans ?_ (settle_quiet (hq.congr rfl rfl rfl rfl))
      rfl
    · exact settle_sends List.prefix_rfl
    · rw [(settle_run _).1]
      rfl

end Sys2Proof.Machine


/-! PROOF. DEBLOCK, the test run's requests, and their refusals (R118, R119, R123, R129 to R132). -/

namespace Sys2Proof.Machine

variable {s t : State}

/-! ### States in which no stop source has a reason -/

/-- No stop source is pending, the PRU is not in UNLOCKED and the link is not silent: no stop demand can come of a change of the
converter state (R101, R104). -/
def Clear (s : State) : Prop :=
  isPending s .valveTrip = false ∧ isPending s .phaseLost = false ∧ isPending s .linkLost = false ∧
    s.pru.lock ≠ .unlocked ∧ s.port.linkSilent = false

theorem Clear.calm (h : Clear s) : Calm s := by
  obtain ⟨h1, h2, h3, hlock, hsilent⟩ := h
  exact ⟨h1, h2, h3, by simp [conditionHolds, hlock], by simp [conditionHolds, hsilent]⟩

/-- In a guarded state a calm resolver has no reason for a stop at all. -/
theorem Calm.clear (h : Calm s) (hg : isGuarded s.ctl.state = true) : Clear s := by
  obtain ⟨h1, h2, h3, hphase, hlink⟩ := h
  exact ⟨h1, h2, h3, by simpa [conditionHolds, hg] using hphase, by simpa [conditionHolds, hg] using hlink⟩

theorem Clear.congr (h : Clear s) (hw : t.prot.waiting = s.prot.waiting) (hl : t.pru.lock = s.pru.lock)
    (hs : t.port.linkSilent = s.port.linkSilent) : Clear t := by
  unfold Clear isPending
  rw [hw, hl, hs]
  exact h

/-- A change of the converter state from a clear state leaves it calm (R117). -/
theorem Clear.changeState (h : Clear s) (c : ConvState) (u : StateCause) (v : Option Valve) :
    Calm (Machine.changeState c u v s) := by
  have hn : Clear (notifyState s.ctl.state c u v { s with ctl := { s.ctl with state := c } }) :=
    h.congr (by simp) (by simp) (by simp [notifyState])
  exact rereadConditions_calm hn.calm

theorem Clear.enterPrecheck (h : Clear s) : Calm (enterPrecheck s) := by
  simp only [Machine.enterPrecheck]
  refine Clear.changeState ?_ _ _ _
  exact h.congr rfl rfl rfl

theorem Clear.enterRunning (h : Clear s) (u : StateCause) : Calm (enterRunning u s) := by
  simp only [Machine.enterRunning]
  refine Clear.changeState ?_ _ _ _
  exact h.congr rfl rfl rfl

theorem enterPrecheck_sends_after {m : State} {rec : OutRecord} {old : ConvState} {n : Nat}
    (hlen : s.port.outgoing.length ≤ 16) (hm : m.port.outgoing = s.port.outgoing ++ [rec])
    (hold : m.ctl.state = old) (hnow : m.now = n) :
    (s.port.outgoing ++ [rec, .noticeState old .precheck .deblock none n]) <+: (enterPrecheck m).port.outgoing := by
  simp only [enterPrecheck]
  exact changeState_sends_after .precheck .deblock none hlen hm hold hnow

theorem enterRunning_sends_after {m : State} {rec : OutRecord} {old : ConvState} {n : Nat} (u : StateCause)
    (hlen : s.port.outgoing.length ≤ 16) (hm : m.port.outgoing = s.port.outgoing ++ [rec])
    (hold : m.ctl.state = old) (hnow : m.now = n) :
    (s.port.outgoing ++ [rec, .noticeState old .running u none n]) <+: (enterRunning u m).port.outgoing := by
  simp only [enterRunning]
  exact changeState_sends_after .running u none hlen hm hold hnow

/-- A plain request that is carried out by a change of the converter state, from a clear state: what its event leaves, with the
reply and the notice. -/
theorem completesSending_change {tag : Nat} {r : Request} {u m : State} {c : ConvState} {cause : StateCause}
    {code : Completion} {x : Content} {old : ConvState} (h : TakesRequest s tag r) (hk : isPlain (requestKind r) = true)
    (hbody : takeRequest tag r (abandoned (popped s)) = changeState c cause none m) (hclear : Clear m)
    (hout : m.port.outgoing = s.port.outgoing ++ [.reply (requestKind r) tag code x]) (hold : m.ctl.state = old)
    (hnow : m.now = s.now) (hs : SameButResolver u { m with ctl := { m.ctl with state := c } }) :
    CompletesSending (rowOfKind (requestKind r)) s
      [.reply (requestKind r) tag code x, .noticeState old c cause none s.now] u := by
  have hexec := exec_plain h hk
  rw [hbody] at hexec
  exact completesSending_of hexec (hs.trans (changeState_same c cause none m)) (.inl (hclear.changeState c cause none))
    (changeState_sends_after c cause none h.2 hout hold hnow)

/-! ### DEBLOCK -/

/-- DEBLOCK's lock check: LOCKED, and in BYPASS also HOLDOVER (R119, R123). -/
def lockOkFor (s : State) : Bool :=
  decide (s.pru.lock = .locked) || (decide (s.ctl.state = .bypass) && decide (s.pru.lock = .holdover))

/-- The checks that DEBLOCK and TEST_START share pass when each does (R119, R129). -/
theorem startRefusal_none {lockOk : Bool} {tg mg : Nat} (hc : tableComplete s.store = true)
    (htg : tg = s.store.tableGen) (hmg : mg = s.store.mapGen) (hl : lockOk = true) (hstop : stopInAction s = false) :
    startRefusal lockOk tg mg s = none := by
  simp [startRefusal, hc, signatureMatches, htg, hmg, hl, hstop]

theorem generationsInRange_of {tg mg : Nat} (h1 : tg ≤ 65535) (h2 : mg ≤ 65535) : generationsInRange tg mg = true := by
  simp [generationsInRange, Config.maxWord, h1, h2]

theorem of_generationsInRange {tg mg : Nat} (h : generationsInRange tg mg = true) : tg ≤ 65535 ∧ mg ≤ 65535 := by
  simp only [generationsInRange, Bool.and_eq_true, decide_eq_true_iff] at h
  exact h

/-- An accepted DEBLOCK in BLOCKED (R119). -/
theorem takeDeblock_blocked {tag tg mg : Nat} (hb : s.ctl.state = .blocked) (hrange : generationsInRange tg mg = true)
    (hr : deblockRefusal (decide (s.pru.lock = .locked)) tg mg s = none) :
    takeDeblock tag tg mg s = enterPrecheck (accept .deblock tag s) := by
  simp [takeDeblock, hb, hrange, checked, hr]

/-- An accepted DEBLOCK in BYPASS (R123). -/
theorem takeDeblock_bypass {tag tg mg : Nat} (hb : s.ctl.state = .bypass) (hrange : generationsInRange tg mg = true)
    (hr : deblockRefusal (decide (s.pru.lock = .locked) || decide (s.pru.lock = .holdover)) tg mg s = none) :
    takeDeblock tag tg mg s = enterRunning .deblock (holdsToTrains (accept .deblock tag s)) := by
  simp only [takeDeblock, hb, hrange, checked, hr, Bool.not_true, Bool.false_eq_true, if_false]

/-- Settles O12: the entry to PRECHECK from a clear state. -/
theorem deblockEntersPrecheck : Obligations.DeblockEntersPrecheck := by
  intro s tag tg mg h hb h1 h2 hc htg hmg hlock hstop hred hcalm hsilent
  have hnone : startRefusal (decide (s.pru.lock = .locked)) tg mg (abandoned (popped s)) = none :=
    startRefusal_none (s := abandoned (popped s)) hc htg hmg (by simp [hlock]) hstop
  have hrefusal : deblockRefusal (decide (s.pru.lock = .locked)) tg mg (abandoned (popped s)) = none := by
    have hred' : redundancyLost (abandoned (popped s)) = false := hred
    rw [deblockRefusal, hnone]
    simp [hred']
  have hclear : Clear s := by
    obtain ⟨p1, p2, p3, -, -⟩ := hcalm
    exact ⟨p1, p2, p3, by simp [hlock], hsilent⟩
  have hbody := takeDeblock_blocked (s := abandoned (popped s)) (tag := tag) hb (generationsInRange_of h1 h2) hrefusal
  have hexec : exec .deblock s = .next (settle (enterPrecheck (accept .deblock tag (abandoned (popped s))))) := by
    rw [← hbody]
    exact exec_plain h rfl
  refine completesSending_of hexec (SameButResolver.trans ?_ (enterPrecheck_same _)) (.inl ?_) ?_
  · rfl
  · exact Clear.enterPrecheck (hclear.congr rfl rfl rfl)
  · exact enterPrecheck_sends_after h.2 rfl hb rfl

/-- A hold runs down as a train, its repeat standing only before the train's end (R70). -/
theorem holdToTrain_eq (v : AngleValues) (p td : Nat) (g : Generator) :
    holdToTrain v p td g = if g.mode = .hold then
      ⟨.train, some (td + angleTicks p v.trainCdeg),
        g.repeatAt.filter fun t => decide (t < td + angleTicks p v.trainCdeg), 0, g.litUntil⟩ else g := by
  unfold holdToTrain
  split
  · cases g.repeatAt with
    | none => rfl
    | some r => by_cases hr : r < td + angleTicks p v.trainCdeg <;> simp [repeatBefore, hr, Option.filter]
  · rfl

/-- The holds turned into trains, in the terms of R70. -/
def trainsBegun (s : State) : State :=
  let trainEnd := s.now + angleTicks s.pru.p s.store.setup.angles.trainCdeg
  { s with gens := s.gens.map fun g => if g.mode = .hold then
      ⟨.train, some trainEnd, g.repeatAt.filter fun t => decide (t < trainEnd), 0, g.litUntil⟩ else g }

theorem holdsToTrains_eq (s : State) : holdsToTrains s = trainsBegun s := by
  simp only [holdsToTrains, trainsBegun, ← holdToTrain_eq]

/-- Settles O13: the entry to RUNNING after the holds have been turned into trains. -/
theorem deblockLeavesBypass : Obligations.DeblockLeavesBypass := by
  intro s tag tg mg h hb h1 h2 hc htg hmg hlock hstop hred hcalm trainEnd
  have hlock' : (decide (s.pru.lock = .locked) || decide (s.pru.lock = .holdover)) = true := by simpa using hlock
  have hnone : startRefusal (decide (s.pru.lock = .locked) || decide (s.pru.lock = .holdover)) tg mg
      (abandoned (popped s)) = none :=
    startRefusal_none (s := abandoned (popped s)) hc htg hmg hlock' hstop
  have hrefusal : deblockRefusal (decide (s.pru.lock = .locked) || decide (s.pru.lock = .holdover)) tg mg
      (abandoned (popped s)) = none := by
    have hred' : redundancyLost (abandoned (popped s)) = false := hred
    rw [deblockRefusal, hnone]
    simp [hred']
  have hclear : Clear s := hcalm.clear (by rw [hb]; rfl)
  have hbody := takeDeblock_bypass (s := abandoned (popped s)) (tag := tag) hb (generationsInRange_of h1 h2) hrefusal
  have hexec : exec .deblock s =
      .next (settle (enterRunning .deblock (trainsBegun (accept .deblock tag (abandoned (popped s)))))) := by
    rw [← holdsToTrains_eq, ← hbody]
    exact exec_plain h rfl
  refine completesSending_of hexec (SameButResolver.trans ?_ (enterRunning_same _ _)) (.inl ?_) ?_
  · rfl
  · have hleft : Clear (trainsBegun (accept .deblock tag (abandoned (popped s)))) := hclear.congr rfl rfl rfl
    exact hleft.enterRunning _
  · exact enterRunning_sends_after _ h.2 rfl hb rfl

/-! ### Test runs -/

/-- An accepted TEST_START (R129). -/
theorem takeTestStart_accepted {tag alpha count tg mg : Nat} (hb : s.ctl.state = .blocked)
    (hrange : testInRange alpha count tg mg = true)
    (hr : startRefusal (decide (s.pru.lock = .locked)) tg mg s = none) :
    takeTestStart tag alpha count tg mg s = enterTesting .testStart (beginTest alpha count (accept .testStart tag s)) := by
  simp only [takeTestStart, hb, hrange, checked, hr, Bool.not_true, Bool.false_eq_true, if_false]

theorem testInRange_of {alpha count tg mg : Nat} (ha : alpha ≤ 18000) (hn : count ≤ 65535) (h1 : tg ≤ 65535)
    (h2 : mg ≤ 65535) : testInRange alpha count tg mg = true := by
  simp [testInRange, generationsInRange, Config.maxWord, ha, hn, h1, h2]

theorem of_testInRange {alpha count tg mg : Nat} (h : testInRange alpha count tg mg = true) :
    alpha ≤ 18000 ∧ count ≤ 65535 ∧ tg ≤ 65535 ∧ mg ≤ 65535 := by
  simp only [testInRange, Bool.and_eq_true, decide_eq_true_iff] at h
  obtain ⟨⟨ha, hn⟩, hg⟩ := h
  exact ⟨ha, hn, of_generationsInRange hg⟩

/-- Settles O17, request by request. -/
theorem testRunStartsSuspendsResumes : Obligations.TestRunStartsSuspendsResumes := by
  intro s tag
  refine ⟨fun hcalm => ⟨fun alpha count tg mg h hb hsilent ha hn h1 h2 hc htg hmg hlock hstop => ?_, fun h hc => ?_,
    fun h hc hstop => ?_⟩, fun hq => ⟨fun h hc => ?_, fun h => ⟨fun hc => ?_, fun hc hstop => ?_⟩⟩⟩
  · have hnone : startRefusal (decide (s.pru.lock = .locked)) tg mg (abandoned (popped s)) = none :=
      startRefusal_none (s := abandoned (popped s)) hc htg hmg (by simp [hlock]) hstop
    have hclear : Clear s := by
      obtain ⟨p1, p2, p3, -, -⟩ := hcalm
      exact ⟨p1, p2, p3, by simp [hlock], hsilent⟩
    have hbody := takeTestStart_accepted (s := abandoned (popped s)) (tag := tag) hb (testInRange_of ha hn h1 h2) hnone
    refine completesSending_change h rfl hbody (hclear.congr rfl rfl rfl) rfl hb rfl ?_
    rfl
  · have hclear : Clear s := hcalm.clear (by rw [hc]; rfl)
    have hc' : (abandoned (popped s)).ctl.state = .testing := hc
    have hbody : takeRequest tag .testSuspend (abandoned (popped s)) =
        enterTestHeld (accept .testSuspend tag (abandoned (popped s))) := by
      rw [takeRequest, takeTestSuspend, hc']
    refine completesSending_change h rfl hbody (hclear.congr rfl rfl rfl) rfl hc rfl ?_
    rfl
  · have hclear : Clear s := hcalm.clear (by rw [hc]; rfl)
    have hc' : (abandoned (popped s)).ctl.state = .testHeld := hc
    have hstop' : ¬ stopInAction (abandoned (popped s)) = true := by
      rw [show stopInAction (abandoned (popped s)) = false from hstop]
      exact Bool.false_ne_true
    have hbody : takeRequest tag .testResume (abandoned (popped s)) =
        enterTesting .testResume (accept .testResume tag (abandoned (popped s))) := by
      rw [takeRequest, takeTestResume, hc']
      exact if_neg hstop'
    refine completesSending_change h rfl hbody (hclear.congr rfl rfl rfl) rfl hc rfl ?_
    rfl
  · refine completesReplying_plain h rfl hq ?_
    rw [takeRequest, takeTestSuspend]
    split
    · rename_i hcase
      exact absurd hcase hc
    · rfl
  · refine completesReplying_plain h rfl hq ?_
    rw [takeRequest, takeTestResume]
    split
    · rename_i hcase
      exact absurd hcase hc
    · rfl
  · refine completesReplying_plain h rfl hq ?_
    have hc' : (abandoned (popped s)).ctl.state = .testHeld := hc
    rw [takeRequest, takeTestResume, hc']
    exact if_pos hstop

/-! ### Refusals of DEBLOCK and TEST_START -/

/-- The first shared check that fails gives the code (R118, R119, R129). -/
theorem takeDeblock_refused {tag tg mg : Nat} {code : Completion}
    (hc : s.ctl.state = .blocked ∨ s.ctl.state = .bypass) (hrange : generationsInRange tg mg = true)
    (hr : deblockRefusal (lockOkFor s) tg mg s = some code) : takeDeblock tag tg mg s = refuse .deblock tag code s := by
  obtain hb | hb := hc <;> simp_all [takeDeblock, checked, lockOkFor]

theorem takeTestStart_refused {tag alpha count tg mg : Nat} {code : Completion} (hb : s.ctl.state = .blocked)
    (hrange : testInRange alpha count tg mg = true) (hr : startRefusal (lockOkFor s) tg mg s = some code) :
    takeTestStart tag alpha count tg mg s = refuse .testStart tag code s := by
  simp_all [takeTestStart, checked, lockOkFor]

/-- DEBLOCK or TEST_START with its carried values. -/
def StartsWith (r : Request) (tg mg : Nat) : Prop :=
  r = .deblock tg mg ∨ ∃ alpha count, r = .testStart alpha count tg mg ∧ alpha ≤ 18000 ∧ count ≤ 65535

/-- A start request in range whose shared check fails is refused with that check's code (R118). -/
theorem takeRequest_start_refused {tag tg mg : Nat} {r : Request} {code : Completion} (hr : StartsWith r tg mg)
    (h1 : tg ≤ 65535) (h2 : mg ≤ 65535) (hc : s.ctl.state = .blocked ∨ (s.ctl.state = .bypass ∧ requestKind r = .deblock))
    (href : startRefusal (lockOkFor s) tg mg s = some code) :
    takeRequest tag r s = refuse (requestKind r) tag code s := by
  obtain rfl | ⟨alpha, count, rfl, ha, hn⟩ := hr
  · refine takeDeblock_refused (hc.imp id And.left) (generationsInRange_of h1 h2) ?_
    rw [deblockRefusal, href]
  · obtain hb | ⟨-, hkind⟩ := hc
    · exact takeTestStart_refused hb (testInRange_of ha hn h1 h2) href
    · cases hkind

/-- Settles O14, check by check in the order of refusal. -/
theorem startRequestsRefusedInOrder : Obligations.StartRequestsRefusedInOrder := by
  intro s tag r tg mg h refusedWith taken lockOk
  have plain : requestKind r = .deblock ∨ requestKind r = .testStart → isPlain (requestKind r) = true := by
    rintro (hk | hk) <;> rw [hk] <;> rfl
  have refused : ∀ code, (requestKind r = .deblock ∨ requestKind r = .testStart) → Quiet s →
      takeRequest tag r (abandoned (popped s)) = refuse (requestKind r) tag code (abandoned (popped s)) → refusedWith code :=
    fun code hk hq hr => completesReplying_plain h (plain hk) hq hr
  refine ⟨fun hk hnot hq => refused _ hk hq ?_, fun htaken => ?_⟩
  · cases r with
    | deblock a b =>
      have hb : (abandoned (popped s)).ctl.state ≠ .blocked := fun hc => hnot (.inl hc)
      have hy : (abandoned (popped s)).ctl.state ≠ .bypass := fun hc => hnot (.inr ⟨hc, rfl⟩)
      rw [takeRequest, takeDeblock]
      split
      · rename_i hc
        exact absurd hc hb
      · rename_i hc
        exact absurd hc hy
      · rfl
    | testStart a c b d =>
      have hb : (abandoned (popped s)).ctl.state ≠ .blocked := fun hc => hnot (.inl hc)
      rw [takeRequest, takeTestStart]
      split
      · rename_i hc
        exact absurd hc hb
      · rfl
    | _ => obtain hk | hk := hk <;> cases hk
  have hq : Quiet s := by
    obtain hb | ⟨hb, -⟩ := htaken <;> exact .inr (by rw [hb]; simp [Unmoved])
  refine ⟨fun hrange => ?_, fun hstart h1 h2 => ?_⟩
  · obtain ⟨rfl, hout⟩ | ⟨alpha, count, rfl, hout⟩ := hrange
    · refine refused _ (.inl rfl) hq ?_
      have hgen : generationsInRange tg mg = false := by
        rw [← Bool.not_eq_true]
        intro hin
        obtain ⟨htg, hmg⟩ := of_generationsInRange hin
        omega
      have hstate : (abandoned (popped s)).ctl.state = .blocked ∨ (abandoned (popped s)).ctl.state = .bypass :=
        htaken.imp id And.left
      rw [takeRequest, takeDeblock]
      obtain hb | hb := hstate <;> rw [hb] <;> exact if_pos (by rw [hgen]; rfl)
    · refine refused _ (.inr rfl) hq ?_
      have htest : testInRange alpha count tg mg = false := by
        rw [← Bool.not_eq_true]
        intro hin
        obtain ⟨ha, hn, htg, hmg⟩ := of_testInRange hin
        omega
      obtain hb | ⟨-, hkind⟩ := htaken
      · have hb' : (abandoned (popped s)).ctl.state = .blocked := hb
        rw [takeRequest, takeTestStart, hb']
        exact if_pos (by rw [htest]; rfl)
      · cases hkind
  · have hk : requestKind r = .deblock ∨ requestKind r = .testStart := by
      obtain rfl | ⟨_, _, rfl, -⟩ := hstart
      · exact .inl rfl
      · exact .inr rfl
    have first : ∀ code, startRefusal (lockOkFor s) tg mg (abandoned (popped s)) = some code → refusedWith code :=
      fun code href => refused code hk hq (takeRequest_start_refused hstart h1 h2 htaken href)
    have hcomplete : tableComplete (abandoned (popped s)).store = tableComplete s.store := rfl
    have hsign : signatureMatches (abandoned (popped s)).store tg mg = signatureMatches s.store tg mg := rfl
    have hmatch : tg = s.store.tableGen → mg = s.store.mapGen →
        signatureMatches (abandoned (popped s)).store tg mg = true := by
      intro htg hmg
      rw [hsign]
      simp [signatureMatches, htg, hmg]
    have hstops : stopInAction (abandoned (popped s)) = stopInAction s := rfl
    have hlockIff : lockOkFor s = true ↔ lockOk := by simp [lockOkFor, lockOk]
    refine ⟨fun hc => first _ ?_, fun hc => ⟨fun hne => first _ ?_, fun htg hmg => ⟨fun hl => first _ ?_,
      fun hl => ⟨fun hs => first _ ?_, fun hs hr hred => ?_⟩⟩⟩⟩
    · simp [startRefusal, hcomplete, hc]
    · have hsig : signatureMatches s.store tg mg = false := by
        simp only [signatureMatches, Bool.and_eq_false_iff, decide_eq_false_iff_not]
        exact hne
      simp [startRefusal, hcomplete, hc, hsign, hsig]
    · have hlock : lockOkFor s = false := by
        rw [← Bool.not_eq_true, hlockIff]
        exact hl
      simp [startRefusal, hcomplete, hc, hmatch htg hmg, hlock]
    · simp [startRefusal, hcomplete, hc, hmatch htg hmg, hlockIff.mpr hl, hstops, hs]
    · subst hr
      refine refused _ hk hq ?_
      have hnone : startRefusal (lockOkFor s) tg mg (abandoned (popped s)) = none :=
        startRefusal_none (s := abandoned (popped s)) hc htg hmg (hlockIff.mpr hl) hs
      have hred' : redundancyLost (abandoned (popped s)) = true := hred
      refine takeDeblock_refused (s := abandoned (popped s)) (htaken.imp id And.left) (generationsInRange_of h1 h2) ?_
      change deblockRefusal (lockOkFor s) tg mg _ = _
      rw [deblockRefusal, hnone]
      simp [hred']

end Sys2Proof.Machine


/-! PROOF. Requests answered in a settled state: the snapshot's requests and the refusals of PROT_END (R92 to R95, R108). -/

namespace Sys2Proof.Machine

variable {s t : State}

/-- A plain request whose rule only replies, in a state that the resolver has nothing to do in, is answered and ends (R101,
R102). -/
theorem answers_plain {tag : Nat} {r : Request} {code : Completion} {x : Content} {u : State} (h : TakesRequest s tag r)
    (hk : isPlain (requestKind r) = true) (hset : Settled u) (hout : u.port.outgoing = s.port.outgoing)
    (hr : takeRequest tag r (abandoned (popped s)) = reply (requestKind r) tag code x u) :
    Answers (rowOfKind (requestKind r)) s (.reply (requestKind r) tag code x) u := by
  have hrest : Settled (reply (requestKind r) tag code x u) := hset.congr rfl rfl rfl rfl rfl rfl rfl rfl
  have hexec := exec_plain h hk
  rw [hr, settle_of_settled _ hrest] at hexec
  exact ⟨_, hexec, by rw [← hout]; rfl, rfl⟩

theorem Settled.abandoned_popped (h : Settled s) : Settled (abandoned (popped s)) := h.congr rfl rfl rfl rfl rfl rfl rfl rfl

/-! ### PROT_END and PROT_END_TOP -/

theorem sourceOfNumber?_sourceNumber (src : Source) : sourceOfNumber? (sourceNumber src) = some src := by cases src <;> rfl

theorem sourceOfNumber?_eq_none {n : Nat} (h : 7 < n) : sourceOfNumber? n = none := by
  match n, h with
  | _ + 8, _ => rfl

theorem topInAction_of_valveTrip (h : isInAction s .valveTrip = true) : topInAction s = some .valveTrip := by
  simp [topInAction, allSources, h]

theorem topInAction_of_nil (h : s.prot.inAction = []) : topInAction s = none := by
  simp [topInAction, isInAction, h]

/-- Settles O21, refusal by refusal. -/
theorem protEndRefusals : Obligations.ProtEndRefusals := by
  intro s tag hset
  have hset' := hset.abandoned_popped
  refine ⟨fun n h => ⟨fun hn => ?_, fun src hsrc => ⟨fun hact => ?_, fun hact htrip hlost => ?_⟩⟩, fun h => ⟨fun hnil => ?_,
    fun hact hlost => ?_⟩⟩
  · refine answers_plain h rfl hset' rfl ?_
    simp only [takeRequest, takeProtEnd, sourceOfNumber?_eq_none hn]
    rfl
  · subst hsrc
    refine answers_plain h rfl hset' rfl ?_
    have hact' : isInAction (abandoned (popped s)) src = false := hact
    simp only [takeRequest, takeProtEnd, sourceOfNumber?_sourceNumber, hact']
    rfl
  · subst hsrc htrip
    refine answers_plain h rfl hset' rfl ?_
    have hact' : isInAction (abandoned (popped s)) .valveTrip = true := hact
    have hbar : endBarred .valveTrip (abandoned (popped s)) = true := by
      rw [endBarred, show redundancyLost (abandoned (popped s)) = true from hlost]
      rfl
    simp only [takeRequest, takeProtEnd, sourceOfNumber?_sourceNumber, hact', hbar]
    rfl
  · refine answers_plain h rfl hset' rfl ?_
    simp only [takeRequest, takeProtEndTop, topInAction_of_nil (s := abandoned (popped s)) hnil]
    rfl
  · refine answers_plain h rfl hset' rfl ?_
    have hbar : endBarred .valveTrip (abandoned (popped s)) = true := by
      rw [endBarred, show redundancyLost (abandoned (popped s)) = true from hlost]
      rfl
    simp only [takeRequest, takeProtEndTop, topInAction_of_valveTrip (s := abandoned (popped s)) hact, hbar]
    rfl

/-! ### The snapshot -/

/-- Settles O24. -/
theorem snapshotLatchedHeldReleased : Obligations.SnapshotLatchedHeldReleased := by
  intro s tag hset
  have hset' := hset.abandoned_popped
  refine ⟨fun h => ⟨fun hnone => ?_, fun c hc => ?_⟩, fun h => ?_⟩
  · have hnone' : (abandoned (popped s)).snapshot = none := hnone
    refine answers_plain h rfl (hset.congr rfl rfl rfl rfl rfl rfl rfl rfl) rfl ?_
    simp only [takeRequest, takeLevelLatch, hnone']
    rfl
  · have hc' : (abandoned (popped s)).snapshot = some c := hc
    refine answers_plain h rfl hset' rfl ?_
    simp only [takeRequest, takeLevelLatch, hc']
    rfl
  · exact answers_plain h rfl (hset.congr rfl rfl rfl rfl rfl rfl rfl rfl) rfl rfl

theorem valveOfNumber?_valveNumber (v : Valve) : valveOfNumber? (valveNumber v) = some v := by
  revert v
  decide

theorem valveOfNumber?_eq_none {n : Nat} (h : n < 1 ∨ 12 < n) : valveOfNumber? n = none := if_neg (by omega)

theorem inRange_iff {x lo hi : Nat} : inRange x lo hi = true ↔ lo ≤ x ∧ x ≤ hi := by simp [inRange]

/-- Settles O25, by the snapshot and then by the range of what is read. -/
theorem levelReadShowsTheSnapshot : Obligations.LevelReadShowsTheSnapshot := by
  intro s tag valve first hset h
  have hset' := hset.abandoned_popped
  refine ⟨fun hnone => ?_, fun c hc => ⟨fun hout => ?_, fun v hv h1 h2 => ?_⟩⟩
  · have hnone' : (abandoned (popped s)).snapshot = none := hnone
    refine answers_plain h rfl hset' rfl ?_
    simp only [takeRequest, takeLevelRead, hnone']
    rfl
  · have hc' : (abandoned (popped s)).snapshot = some c := hc
    have hno : (if inRange first 1 c.nL = true then valveOfNumber? valve else none) = none := by
      split
      · next hin =>
        rw [inRange_iff] at hin
        exact valveOfNumber?_eq_none (by omega)
      · rfl
    refine answers_plain h rfl hset' rfl ?_
    simp only [takeRequest, takeLevelRead, hc', hno]
    rfl
  · subst hv
    have hc' : (abandoned (popped s)).snapshot = some c := hc
    refine answers_plain h rfl hset' rfl ?_
    simp only [takeRequest, takeLevelRead, hc', if_pos (inRange_iff.mpr ⟨h1, h2⟩), valveOfNumber?_valveNumber]
    rfl

/-! ### LEVEL_FIND -/

/-- The snapshot of twelve valves of N_L levels holds 12 times N_L entries. -/
theorem length_snapshotEntries {c : Snapshot} (h : ∀ v : Valve, c.levels[v].length = c.nL) :
    (snapshotEntries c).length = 12 * c.nL := by
  have hall : ∀ n ∈ c.levels.toList.map List.length, n = c.nL := by
    intro n hn
    obtain ⟨l, hl, rfl⟩ := List.mem_map.mp hn
    obtain ⟨i, hi, rfl⟩ := List.getElem_of_mem hl
    exact h ⟨i, by simpa using hi⟩
  rw [snapshotEntries, List.length_flatten, List.sum_eq_card_nsmul _ _ hall]
  simp

/-- The entries that one LEVEL_FIND examines, by their places in the table. -/
theorem examined_getElem? (l : List LevelEntry) (start k : Nat) :
    ((l.drop start).take 128)[k]? = if k < 128 then l[start + k]? else none := by
  rw [List.getElem?_take]
  split <;> simp [List.getElem?_drop]

/-- The first match among the entries examined is found with its position (R95). -/
theorem scanSnapshot_found {c : Snapshot} {valve level i : Nat} {states : List LevelState} {e : LevelEntry}
    (hi : entryIndex c.nL valve level ≤ i) (hlt : i < entryIndex c.nL valve level + 128)
    (he : (snapshotEntries c)[i]? = some e) (hmatch : states.contains e.state = true)
    (hfirst : ∀ j x, entryIndex c.nL valve level ≤ j → j < i → (snapshotEntries c)[j]? = some x →
      states.contains x.state = false) :
    scanSnapshot c valve level states = (.found, .levelFound (i / c.nL + 1) (i % c.nL + 1) e) := by
  obtain ⟨k, rfl⟩ := Nat.exists_eq_add_of_le hi
  have hk : k < 128 := by omega
  have hek := examined_getElem? (snapshotEntries c) (entryIndex c.nL valve level) k
  rw [if_pos hk, he] at hek
  obtain ⟨hlen, hget⟩ := List.getElem?_eq_some_iff.mp hek
  have hidx : ((((snapshotEntries c).drop (entryIndex c.nL valve level)).take 128).findIdx
      fun e => states.contains e.state) = k := by
    rw [List.findIdx_eq hlen]
    refine ⟨by rw [hget]; exact hmatch, fun j hj => ?_⟩
    have hej := examined_getElem? (snapshotEntries c) (entryIndex c.nL valve level) j
    rw [if_pos (by omega), List.getElem?_eq_getElem (by omega)] at hej
    exact hfirst _ _ (by omega) (by omega) hej.symm
  simp only [scanSnapshot, Config.levelFindLimit, hidx, hek, entryPosition]

/-- Without a match the scan ends the table or stops past the 128th entry (R95). -/
theorem scanSnapshot_none {c : Snapshot} {valve level : Nat} {states : List LevelState}
    (h : ∀ j x, entryIndex c.nL valve level ≤ j → j < entryIndex c.nL valve level + 128 →
      (snapshotEntries c)[j]? = some x → states.contains x.state = false) :
    scanSnapshot c valve level states =
      if (snapshotEntries c).length ≤ entryIndex c.nL valve level + 128 then (.exhausted, .empty)
      else (.partialScan, .levelNext ((entryIndex c.nL valve level + 128) / c.nL + 1)
        ((entryIndex c.nL valve level + 128) % c.nL + 1)) := by
  have hnone : ∀ x ∈ ((snapshotEntries c).drop (entryIndex c.nL valve level)).take 128,
      states.contains x.state = false := by
    intro x hx
    obtain ⟨k, hk⟩ := List.mem_iff_getElem?.mp hx
    rw [examined_getElem?] at hk
    split at hk
    · exact h _ x (by omega) (by omega) hk
    · cases hk
  have hidx := List.findIdx_eq_length_of_false hnone
  simp only [scanSnapshot, Config.levelFindLimit, hidx, List.getElem?_length, entryPosition]
  rfl

theorem contains_known {states : List (Option LevelState)} {x : LevelState} :
    (states.filterMap id).contains x = true ↔ some x ∈ states := by
  simp

/-- Settles O26, by the snapshot, by the range of the start, and by the scan. -/
theorem levelFindScansTheSnapshot : Obligations.LevelFindScansTheSnapshot := by
  intro s tag valve level states hset h
  have hset' := hset.abandoned_popped
  refine ⟨fun hnone => ?_, fun c hc hlen => ?_⟩
  · have hnone' : (abandoned (popped s)).snapshot = none := hnone
    refine answers_plain h rfl hset' rfl ?_
    simp only [takeRequest, takeLevelFind, hnone']
    rfl
  have hc' : (abandoned (popped s)).snapshot = some c := hc
  refine ⟨fun hout => ?_, fun h1 h2 h3 h4 hknown => ?_⟩
  · refine answers_plain h rfl hset' rfl ?_
    have hno : ¬ (inRange valve 1 12 && inRange level 1 c.nL && states.all (·.isSome)) = true := by
      simp only [Bool.and_eq_true, inRange_iff, List.all_eq_true, not_and, not_forall]
      rintro ⟨⟨_, _⟩, _, _⟩
      refine ⟨none, ?_, by simp⟩
      obtain ho | ho | ho | ho | ho := hout
      · omega
      · omega
      · omega
      · omega
      · exact ho
    simp only [takeRequest, takeLevelFind, hc', if_neg hno]
    rfl
  intro start entry isMatch
  have hin : (inRange valve 1 12 && inRange level 1 c.nL && states.all (·.isSome)) = true := by
    simp only [Bool.and_eq_true, inRange_iff, List.all_eq_true]
    refine ⟨⟨⟨h1, h2⟩, h3, h4⟩, fun x hx => ?_⟩
    rw [Option.isSome_iff_ne_none]
    rintro rfl
    exact hknown hx
  have answered : ∀ code x, scanSnapshot c valve level (states.filterMap id) = (code, x) →
      Answers .levelFind s (.reply .levelFind tag code x) (abandoned (popped s)) := by
    intro code x hscan
    refine answers_plain h rfl hset' rfl ?_
    simp only [takeRequest, takeLevelFind, hc', if_pos hin, hscan]
    rfl
  have unmatched : ∀ {j x}, ¬ isMatch j → entry j = some x → (states.filterMap id).contains x.state = false := by
    intro j x hj hx
    rw [← Bool.not_eq_true, contains_known]
    exact fun hmem => hj ⟨x, hx, hmem⟩
  refine ⟨fun i e hi hlt he hmem hfirst => answered _ _ ?_, fun hno => ⟨fun hle => answered _ _ ?_,
    fun hgt => answered _ _ ?_⟩⟩
  · exact scanSnapshot_found hi hlt he (contains_known.mpr hmem) fun j x h1 h2 hx => unmatched (hfirst j h1 h2) hx
  · rw [scanSnapshot_none fun j x h1 h2 hx => unmatched (hno j h1 h2) hx, length_snapshotEntries hlen]
    exact if_pos hle
  · rw [scanSnapshot_none fun j x h1 h2 hx => unmatched (hno j h1 h2) hx, length_snapshotEntries hlen]
    exact if_neg (Nat.not_le.mpr hgt)

end Sys2Proof.Machine


/-! PROOF. Host ends, LEVEL_CLEAR and LEVEL_EXCLUDE, and the frames that no request fits (R108, R109, R89, R90, R164). -/

namespace Sys2Proof.Machine

variable {s t : State}

/-! ### Ends -/

/-- An end's notice goes out while the list has room (R109, R166). -/
theorem endSource_outgoing {src : Source} {c : EndCause} (h : s.port.outgoing.length < 32) :
    (endSource src c s).port.outgoing = s.port.outgoing ++ [.noticeEnd src c s.now] := by
  rw [endSource, placeEnded_outgoing, notify_outgoing]
  exact if_pos h

/-- A source whose end brings it back by neither its repeat mark nor its condition is IDLE after it (R109). -/
theorem idle_endSource {src : Source} (c : EndCause) (hp : isPending s src = false) (hr : returnsPending src s = false) :
    Idle src (endSource src c s) := by
  refine ⟨?_, by simp⟩
  rw [isPending_endSource, if_neg (by simp [hr]), hp]

/-- An end leaves the resolver quiet unless it brings VALVE_TRIP back where its demand acts (R104, R109). -/
theorem Quiet.endSource {src : Source} (h : Quiet s) (c : EndCause)
    (htrip : src = .valveTrip → hasSource s.prot.repeats src = true → Unmoved s.ctl.state) :
    Quiet (endSource src c s) := by
  have hsame := endSource_same src c s
  by_cases hu : Unmoved s.ctl.state
  · exact .inr (by rw [hsame.ctl]; exact hu)
  obtain hcalm | hu' := h
  swap
  · exact absurd hu' hu
  obtain ⟨h1, h2, h3, hphase, hlink⟩ := hcalm
  have stays : ∀ b, isPending s b = false → (src = b → returnsPending src s = false) →
      isPending (Machine.endSource src c s) b = false := by
    intro b hb hr
    rw [isPending_endSource, if_neg, hb]
    rintro ⟨hsrc, hret⟩
    exact Bool.false_ne_true ((hr hsrc).symm.trans hret)
  refine .inl ⟨stays _ h1 ?_, stays _ h2 ?_, stays _ h3 ?_, ?_, ?_⟩
  · rintro rfl
    have hrep : hasSource s.prot.repeats .valveTrip = false := by
      rw [← Bool.not_eq_true]
      exact fun hr => hu (htrip rfl hr)
    simp [returnsPending, hrep, conditionHolds]
  · rintro rfl
    simp [returnsPending, isEdgeSource, hphase]
  · rintro rfl
    simp [returnsPending, isEdgeSource, hlink]
  · rw [hsame.conditionHolds]
    exact hphase
  · rw [hsame.conditionHolds]
    exact hlink

theorem Placed.not_pending {src : Source} (h : Placed s) (ha : isInAction s src = true) : isPending s src = false := by
  rw [← Bool.not_eq_true]
  exact fun hp => h.1 src ⟨hp, ha⟩

theorem returnsPending_eq_false {src : Source} (hc : conditionHolds s src = false)
    (hr : hasSource s.prot.repeats src = false) : returnsPending src s = false := by
  simp [returnsPending, hc, hr]

/-- A source that an end leaves IDLE is IDLE after the close of a quiet event, and a VALVE_TRIP has released the trip line
(R106, R109). -/
theorem settle_endSource_idle {src : Source} (c : EndCause) (hp : isPending s src = false)
    (hc : conditionHolds s src = false) (hr : hasSource s.prot.repeats src = false)
    (hq : Quiet (endSource src c s)) :
    Idle src (settle (endSource src c s)) ∧ (src = .valveTrip → (settle (endSource src c s)).prot.tripLine = false) := by
  have hidle := idle_endSource c hp (returnsPending_eq_false hc hr)
  refine ⟨hidle.settle_of_quiet hq ?_, ?_⟩
  · rw [(endSource_same src c s).conditionHolds]
    exact hc
  · rintro rfl
    have hline : (endSource .valveTrip c s).prot.tripLine = false := by
      rw [endSource_prot]
      exact Bool.and_false _
    exact (Released.settle ⟨hidle, hline⟩).2

theorem sourceNumber_lt_of_mem_take (src : Source) :
    ∀ a ∈ allSources.take (sourceNumber src), sourceNumber a < sourceNumber src := by
  cases src <;> decide

/-- The source in action that no other outranks is the one that PROT_END_TOP ends (R108). -/
theorem topInAction_eq {src : Source} (h : isInAction s src = true)
    (htop : ∀ b, isInAction s b = true → sourceNumber src ≤ sourceNumber b) : topInAction s = some src := by
  have hsplit : allSources = allSources.take (sourceNumber src) ++ src :: allSources.drop (sourceNumber src + 1) := by
    cases src <;> rfl
  rw [topInAction, List.find?_eq_some_iff_append]
  refine ⟨h, _, _, hsplit, fun a ha => ?_⟩
  rw [Bool.not_eq_true', ← Bool.not_eq_true]
  exact fun hact => absurd (htop a hact) (Nat.not_le.mpr (sourceNumber_lt_of_mem_take src a ha))

/-- Settles O22: the end itself, the quiet close, and what they leave of the source. -/
theorem hostEndsASource : Obligations.HostEndsASource := by
  intro s tag src hq hplaced hact hbar htrip ended
  have hbar' : endBarred src (abandoned (popped s)) = false := by
    rw [endBarred, ← Bool.not_eq_true, Bool.and_eq_true, decide_eq_true_iff]
    exact hbar
  have key : ∀ (r : Request) (x : Content), TakesRequest s tag r → isPlain (requestKind r) = true →
      takeRequest tag r (abandoned (popped s)) =
        endSource src .host (reply (requestKind r) tag .done x (abandoned (popped s))) →
      ended (rowOfKind (requestKind r)) (.reply (requestKind r) tag .done x) := by
    intro r x h hk hbody
    have hexec := exec_plain h hk
    rw [hbody] at hexec
    have hq' : Quiet (endSource src .host (reply (requestKind r) tag .done x (abandoned (popped s)))) :=
      Quiet.endSource (s := reply (requestKind r) tag .done x (abandoned (popped s))) (hq.congr rfl rfl rfl rfl) .host htrip
    have hlen : (reply (requestKind r) tag .done x (abandoned (popped s))).port.outgoing.length < 32 := by
      have h16 := h.2
      simp only [reply, appendRecord, List.length_append, List.length_singleton]
      change s.port.outgoing.length + 1 < 32
      omega
    refine ⟨_, hexec, ((reply_same _ _ _ _ _).trans (endSource_same _ _ _)).trans (settle_quiet hq'),
      settle_sends ?_, fun hc hr => ?_⟩
    · have hsent := endSource_outgoing (src := src) (c := .host) hlen
      rw [show (reply (requestKind r) tag .done x (abandoned (popped s))).port.outgoing =
        s.port.outgoing ++ [.reply (requestKind r) tag .done x] from rfl, List.append_assoc] at hsent
      rw [hsent]
      exact List.prefix_rfl
    · obtain ⟨⟨hp, ha⟩, hline⟩ := settle_endSource_idle
        (s := reply (requestKind r) tag .done x (abandoned (popped s))) .host (hplaced.not_pending hact) hc hr hq'
      exact ⟨ha, hp, hline⟩
  have hact' : isInAction (abandoned (popped s)) src = true := hact
  refine ⟨fun h => key _ _ h rfl ?_, fun h htop => key _ _ h rfl ?_⟩
  · simp only [takeRequest, takeProtEnd, sourceOfNumber?_sourceNumber, hact', hbar']
    rfl
  · simp only [takeRequest, takeProtEndTop, topInAction_eq hact' htop, hbar']
    rfl

/-! ### LEVEL_CLEAR and LEVEL_EXCLUDE -/

theorem levelTarget_of_mem {level : Nat} (v : Valve) (h1 : 1 ≤ level) (h2 : level ≤ s.store.setup.levels.nL) :
    levelTarget (valveNumber v) level s = some v := by
  rw [levelTarget, if_pos (inRange_iff.mpr ⟨h1, h2⟩), valveOfNumber?_valveNumber]

theorem levelTarget_eq_none {valve level : Nat}
    (h : valve < 1 ∨ 12 < valve ∨ level < 1 ∨ s.store.setup.levels.nL < level) : levelTarget valve level s = none := by
  rw [levelTarget]
  split
  · next hin =>
    rw [inRange_iff] at hin
    exact valveOfNumber?_eq_none (by omega)
  · rfl

theorem takeLevelClear_range {tag valve : Nat} {level : Option Nat} (hb : s.ctl.state = .blocked)
    (h : levelTarget valve (level.getD 1) s = none) : takeLevelClear tag valve level s = refuse .levelClear tag .range s := by
  simp only [takeLevelClear, hb, ne_eq, not_true_eq_false, if_false, h]

theorem takeLevelExclude_range {tag valve level : Nat} (hb : s.ctl.state = .blocked)
    (h : levelTarget valve level s = none) : takeLevelExclude tag valve level s = refuse .levelExclude tag .range s := by
  simp only [takeLevelExclude, hb, ne_eq, not_true_eq_false, if_false, h]

theorem takeLevelClear_done {tag valve : Nat} {level : Option Nat} {v : Valve} (hb : s.ctl.state = .blocked)
    (h : levelTarget valve (level.getD 1) s = some v) :
    takeLevelClear tag valve level s = accept .levelClear tag (setLevels v (clearLevels level s.monitors[v].levels) s) := by
  simp only [takeLevelClear, hb, ne_eq, not_true_eq_false, if_false, h]
  rfl

theorem takeLevelExclude_done {tag valve level : Nat} {v : Valve} (hb : s.ctl.state = .blocked)
    (h : levelTarget valve level s = some v) :
    takeLevelExclude tag valve level s = accept .levelExclude tag
      (setLevels v (s.monitors[v].levels.modify (level - 1) (excludeLevel s.now)) s) := by
  simp only [takeLevelExclude, hb, ne_eq, not_true_eq_false, if_false, h]
  rfl

/-- An accepted LEVEL_CLEAR or LEVEL_EXCLUDE changes one valve's levels (R89, R90). -/
theorem completesReplying_levels {tag : Nat} {r : Request} (h : TakesRequest s tag r)
    (hk : isPlain (requestKind r) = true) (hb : s.ctl.state = .blocked) (v : Valve) (levels : List LevelEntry)
    (hbody : takeRequest tag r (abandoned (popped s)) =
      accept (requestKind r) tag (setLevels v levels (abandoned (popped s)))) :
    CompletesReplying (rowOfKind (requestKind r)) s (.reply (requestKind r) tag .done .empty)
      { abandoned (popped s) with monitors := s.monitors.set v { s.monitors[v] with levels := levels } } :=
  completesReplying_done h hk (.inr (.inr (.inr (.inl hb)))) rfl hbody

/-- Settles O27, refusals first. -/
theorem levelsClearedAndExcluded : Obligations.LevelsClearedAndExcluded := by
  intro s tag valve level
  refine ⟨fun r h hr => ⟨fun hb hq => ?_, fun hb hout => ?_⟩, fun v hv hb => ?_⟩
  · have hb' : (abandoned (popped s)).ctl.state ≠ .blocked := hb
    obtain rfl | rfl | rfl := hr
    · exact completesReplying_plain h rfl hq (if_pos hb')
    · exact completesReplying_plain h rfl hq (if_pos hb')
    · exact completesReplying_plain h rfl hq (if_pos hb')
  · have hq : Quiet s := .inr (.inr (.inr (.inl hb)))
    obtain rfl | rfl | rfl := hr
    · refine completesReplying_plain h rfl hq (takeLevelClear_range hb (levelTarget_eq_none ?_))
      obtain h1 | h2 | ⟨-, h3⟩ := hout
      · exact .inl h1
      · exact .inr (.inl h2)
      · exact .inr (.inr h3)
    · refine completesReplying_plain h rfl hq (takeLevelClear_range hb (levelTarget_eq_none ?_))
      obtain h1 | h2 | ⟨h3, -⟩ := hout
      · exact .inl h1
      · exact .inr (.inl h2)
      · exact absurd rfl h3
    · refine completesReplying_plain h rfl hq (takeLevelExclude_range hb (levelTarget_eq_none ?_))
      obtain h1 | h2 | ⟨-, h3⟩ := hout
      · exact .inl h1
      · exact .inr (.inl h2)
      · exact .inr (.inr h3)
  · subst hv
    refine ⟨fun h hn => ?_, fun h1 h2 => ⟨fun h => ?_, fun h => ?_⟩⟩
    · exact completesReplying_levels h rfl hb v _
        (takeLevelClear_done (s := abandoned (popped s)) hb (levelTarget_of_mem v (Nat.le_refl 1) hn))
    · exact completesReplying_levels h rfl hb v _
        (takeLevelClear_done (s := abandoned (popped s)) hb (levelTarget_of_mem v h1 h2))
    · exact completesReplying_levels h rfl hb v _
        (takeLevelExclude_done (s := abandoned (popped s)) hb (levelTarget_of_mem v h1 h2))

/-! ### Frames that no request fits -/

/-- A head frame with a bad body length is answered RANGE (R164). -/
theorem serve_badLength {tag : Nat} {k : RequestKind} (h : s.port.requests.head? = some ⟨tag, .badLength k⟩)
    (hlen : s.port.outgoing.length ≤ 16) (f : Nat → Request → State → State) :
    serve k f s = settle (reply k tag .range .empty (takenEffects k (popped s))) := by
  cases hq : s.port.requests with
  | nil => simp [hq] at h
  | cons g rest =>
    simp only [hq, List.head?_cons, Option.some.injEq] at h
    subst h
    have hr : requestReady s = true := by simp [requestReady, hq, Config.takeLimit, hlen]
    simp [serve, takeHead, hq, hr, popped]

/-- A bad body length completes with its RANGE reply and what the taking itself does (R164). -/
theorem completesReplying_badLength {tag : Nat} {k : RequestKind} {u : State} (hq : Quiet s)
    (h : s.port.requests.head? = some ⟨tag, .badLength k⟩) (hlen : s.port.outgoing.length ≤ 16)
    (hu : takenEffects k (popped s) = u) : CompletesReplying (rowOfKind k) s (.reply k tag .range .empty) u := by
  subst hu
  have hexec : exec (rowOfKind k) s = .next (settle (reply k tag .range .empty (takenEffects k (popped s)))) := by
    rw [exec_rowOfKind, serve_badLength h hlen]
  refine completesReplying_of hexec (reply_same _ _ _ _ _) ((hq.takenEffects k).congr rfl rfl rfl rfl) ?_
  rw [← (takenEffects_popped_port k s).2]
  exact List.prefix_rfl

/-- Settles O30. -/
theorem unknownAndMisfitRequestsAnswered : Obligations.UnknownAndMisfitRequestsAnswered := by
  intro s tag hq hlen
  refine ⟨fun code h => ?_, fun k h => ⟨fun hk => ?_, fun h1 h2 h3 => ?_, ?_⟩⟩
  · have hhead : unknownHead s = some (tag, code) := by
      cases hreq : s.port.requests with
      | nil => simp [hreq] at h
      | cons g rest =>
        simp only [hreq, List.head?_cons, Option.some.injEq] at h
        subst h
        have hr : requestReady s = true := by simp [requestReady, hreq, Config.takeLimit, hlen]
        simp [unknownHead, hreq, hr]
    have hexec : exec .unknownRequest s = .next (settle (takeUnknown tag code s)) := by
      simp only [exec, execUnknownRequest, hhead]
    exact completesReplying_of hexec rfl (hq.congr rfl rfl rfl rfl) List.prefix_rfl
  · refine completesReplying_badLength hq h hlen (takenEffects_keeps ?_ ?_ _)
    · obtain hk | hk := hk <;> simp [hk]
    · rintro rfl
      obtain hk | hk := hk <;> cases hk
  · exact completesReplying_badLength hq h hlen (takenEffects_abandons h1 h2 h3 _)
  · rintro rfl
    exact completesReplying_badLength hq h hlen rfl

end Sys2Proof.Machine


/-! PROOF. Steps and resets: the front command, the idle step, POWER_ON, and the invariants at power-on (R136, R164). -/

namespace Sys2Proof.Machine

variable {s t : State}

/-- Settles O1. -/
theorem stepRunsFrontCommand : Obligations.StepRunsFrontCommand := by
  intro c rest s h
  rw [step, h]

/-! ### The idle step -/

theorem step_idle (h : s.pending = []) : step s = idle s := by rw [step, h]

/-- The port takes a request that stands at the head of its queue (R164). -/
theorem TakesRequest.ready {tag : Nat} {r : Request} (h : TakesRequest s tag r) : requestReady s = true := by
  obtain ⟨hhead, hlen⟩ := h
  cases hreq : s.port.requests with
  | nil => simp [hreq] at hhead
  | cons g rest => simp [requestReady, hreq, Config.takeLimit, hlen]

/-- A row of a list of one row for each valve is armed for one of the valves' own times. -/
theorem mem_times_of_valveRow {α : Type} {x : Vector α 12} {f : α → Option Nat} {row : Valve → Instr} {n : Nat} {c : Instr}
    (h : (some n, c) ∈ allValves.map fun v => (f x[v], row v)) : some n ∈ x.toList.map f := by
  obtain ⟨v, -, hv⟩ := List.mem_map.mp h
  exact List.mem_map.mpr ⟨x[v], by simp, congrArg Prod.fst hv⟩

/-- Every timed row is armed for one of the part's own times (log 3). -/
theorem mem_armedTimes_of_timedRow {n : Nat} {c : Instr} (h : (some n, c) ∈ timedRows s) : n ∈ armedTimes s := by
  simp only [timedRows, List.mem_append] at h
  refine List.mem_filterMap.mpr ⟨some n, ?_, rfl⟩
  simp only [List.mem_append]
  obtain (((h | h) | h) | h) | h := h
  · exact .inl (.inl (.inl (List.mem_append_left _ (List.mem_map_of_mem (f := Prod.fst) h))))
  · exact .inl (.inl (.inr (mem_times_of_valveRow h)))
  · exact .inl (.inr (mem_times_of_valveRow h))
  · exact .inl (.inl (.inl (List.mem_append_right [armedExpiry s.pru, nextDue s.cal]
      (List.mem_map_of_mem (f := Prod.fst) h))))
  · exact .inr (mem_times_of_valveRow h)

/-- With no request to take and no timed row whose time has come, the part has no event of its own (log 1, log 3). -/
theorem dueRow_none (hr : requestReady s = false) (h : ∀ n ∈ armedTimes s, s.now < n) : dueRow s = none := by
  have hnone : (timedRows s).find? (fun r => hasCome s.now r.1) = none := by
    rw [List.find?_eq_none]
    rintro ⟨_ | n, c⟩ hrow
    · exact Bool.false_ne_true
    · have hlt := h n (mem_armedTimes_of_timedRow hrow)
      simp only [hasCome, Option.any_some, decide_eq_true_eq]
      omega
  rw [dueRow, hr, hnone]
  rfl

/-- Settles O2, by what the part finds due. -/
theorem idleStepTakesOrTicks : Obligations.IdleStepTakesOrTicks := by
  intro s hp
  refine ⟨fun tag r h => ?_, fun hno htimes => ?_⟩
  · have hdue : dueRow s = some (rowOfKind (requestKind r)) := by
      rw [dueRow, if_pos h.ready, h.1]
      rfl
    rw [step_idle hp, idle, hdue]
  · have hr : requestReady s = false := by
      rw [← Bool.not_eq_true]
      intro hready
      rw [requestReady, Bool.and_eq_true, decide_eq_true_iff, Config.takeLimit] at hready
      obtain ⟨hne, hlen⟩ := hready
      obtain hnil | hlong := hno
      · simp [hnil] at hne
      · omega
    rw [step_idle hp, idle, dueRow_none hr htimes]
    rfl

/-! ### Power-on -/

/-- Settles O3: POWER_ON's state is the reset value, read block by block. -/
theorem powerOnResetsEveryBlock : Obligations.PowerOnResetsEveryBlock := by
  intro s
  refine ⟨{ State.reset with pending := s.pending }, rfl, rfl, rfl, rfl, rfl, rfl, fun v => ⟨?_, ?_, ?_⟩, rfl, rfl, rfl, rfl,
    rfl, rfl, rfl, rfl, fun i hi => ?_, fun k hk => ?_, rfl, rfl, fun line => ?_⟩
  · simp [State.reset, generatorOff]
  · simp [State.reset]
  · simp [State.reset, levelCleared]
  · simp [State.reset]
  · have hmaps : ∀ (k : Nat) (hk : k < 6), valveNumber State.reset.store.yMap[k] = k + 1 ∧
        valveNumber State.reset.store.dMap[k] = k + 7 := by decide
    exact hmaps k hk
  · cases line with
    | ret v => simp [lineReceiver, State.reset]
    | _ => rfl

/-- Settles O53, invariant by invariant. -/
theorem invariantsHoldAtReset : Obligations.InvariantsHoldAtReset := by
  refine ⟨rfl, ⟨nofun, List.nodup_nil⟩, List.Pairwise.nil, fun _ v => ?_, ?_, ?_, ?_, storeInv_reset, resolverInv_reset []⟩
  · simp [State.reset]
  · rintro (h | h) <;> cases h
  · simp [PhaseInv, State.reset, defaultSetup, Config.defaultPhase, pMin, pMax, pNom]
  · simp [QueueInv, State.reset]

end Sys2Proof.Machine


/-! PROOF. The applied angle and the interpolated overlap (R27 to R33). -/

namespace Sys2Proof.Machine

variable {s t : State}

/-! ### The applied angle -/

/-- Steps 1 and 2 from a previous angle within the band: the clamped angle, moved by at most a step (R27, R28). -/
theorem limitedAngle_eq {v : AngleValues} {active aPrev : Nat} (hmin : v.alphaMin ≤ aPrev) (hmax : aPrev ≤ v.alphaMax)
    (hup : 0 < v.stepUp) :
    let stepped := max (aPrev - v.stepDown) (min (min (max active v.alphaMin) v.alphaMax) (aPrev + v.stepUp))
    limitedAngle v active aPrev = ⟨stepped, ⟨decide (stepped ≠ active), false, false, false⟩⟩ := by
  intro stepped
  have hclamp : clampNat active v.alphaMin v.alphaMax = min (max active v.alphaMin) v.alphaMax := by
    unfold clampNat
    split <;> try split
    all_goals omega
  have hstep : (if aPrev + v.stepUp < clampNat active v.alphaMin v.alphaMax then aPrev + v.stepUp
      else if clampNat active v.alphaMin v.alphaMax + v.stepDown < aPrev then aPrev - v.stepDown
      else clampNat active v.alphaMin v.alphaMax) = stepped := by
    rw [hclamp]
    split <;> try split
    all_goals omega
  have hlimited : (decide (clampNat active v.alphaMin v.alphaMax ≠ active) ||
      decide (stepped ≠ clampNat active v.alphaMin v.alphaMax)) = decide (stepped ≠ active) := by
    rw [hclamp, ← Bool.decide_or]
    refine decide_eq_decide.mpr ?_
    omega
  rw [← hlimited, ← hstep]
  rfl

/-- The gamma cap never raises the angle above the larger of what it was and alpha_min (R33). -/
theorem gammaCap_value_le (alphaMin mu m : Nat) (a : Angle) :
    alphaMin ≤ (gammaCap alphaMin mu m a).value ∧ (gammaCap alphaMin mu m a).value ≤ max a.value alphaMin ∧
      ((gammaCap alphaMin mu m a).value : Int) ≤ max (alphaMin : Int) (18000 - mu - m) := by
  simp only [gammaCap, decide_eq_true_eq]
  split <;> omega

/-- The bounds of SETUP_ANGLES that the applied angle rests on (R140). -/
theorem anglesInRange_bounds {v : AngleValues} (h : anglesInRange v = true) :
    v.alphaMin ≤ v.alphaMax ∧ v.alphaMin ≤ v.alphaRetard ∧ v.alphaRetard ≤ v.alphaMax ∧ 0 < v.stepUp := by
  simp only [anglesInRange, Bool.and_eq_true, inRange_iff] at h
  omega

theorem appliedAngle_retard (h : s.ctl.state = .retard) :
    appliedAngle s = ⟨s.store.setup.angles.alphaRetard, noFlags⟩ := by simp only [appliedAngle, h]

theorem appliedAngle_testing (h : s.ctl.state = .testing) :
    appliedAngle s = ⟨s.acu.testAngle.getD s.store.setup.angles.alphaMin, noFlags⟩ := by simp only [appliedAngle, h]

theorem appliedAngle_rectifier (h : s.ctl.state = .running) (hr : s.store.setup.role = .rectifier) :
    appliedAngle s = limitedAngle s.store.setup.angles (activeAlpha s) s.acu.aPrev := by simp only [appliedAngle, h, hr]

theorem appliedAngle_inverter (h : s.ctl.state = .running) (hr : s.store.setup.role = .inverter) :
    appliedAngle s = gammaCap s.store.setup.angles.alphaMin (presentMu s)
      (marginM s.store.setup.angles.gammaRef s.acu.cfpMargin s.store.setup.guard.cfBoost (isInAction s .commutationFail))
      (limitedAngle s.store.setup.angles (activeAlpha s) s.acu.aPrev) := by simp only [appliedAngle, h, hr]

/-- Settles O39, by the firing state and the role. -/
theorem appliedAngleInBand : Obligations.AppliedAngleInBand := by
  intro s hrange hfiring hlo hhi htest v active clamped stepped
  obtain ⟨hband, hr1, hr2, hup⟩ := anglesInRange_bounds hrange
  have hlimited := limitedAngle_eq (active := active) hlo hhi hup
  have hstepped : v.alphaMin ≤ stepped ∧ stepped ≤ v.alphaMax := by
    simp only [stepped, clamped, v]
    omega
  cases hc : s.ctl.state with
  | retard =>
    rw [appliedAngle_retard hc]
    exact ⟨hr1, hr2, fun _ => rfl, nofun, nofun⟩
  | testing =>
    rw [appliedAngle_testing hc]
    refine ⟨?_, ?_, nofun, fun _ a ha => by rw [ha]; rfl, nofun⟩
    · cases ha : s.acu.testAngle with
      | none => exact Nat.le_refl _
      | some a => exact (htest a ha).1
    · cases ha : s.acu.testAngle with
      | none => exact hband
      | some a => exact (htest a ha).2
  | running =>
    cases hrole : s.store.setup.role with
    | rectifier =>
      rw [appliedAngle_rectifier hc hrole]
      refine ⟨?_, ?_, nofun, nofun, fun _ _ => hlimited⟩
      · exact hlimited ▸ hstepped.1
      · exact hlimited ▸ hstepped.2
    | inverter =>
      obtain ⟨h1, h2, -⟩ := gammaCap_value_le v.alphaMin (presentMu s)
        (marginM v.gammaRef s.acu.cfpMargin s.store.setup.guard.cfBoost (isInAction s .commutationFail))
        (limitedAngle v (activeAlpha s) s.acu.aPrev)
      rw [appliedAngle_inverter hc hrole]
      refine ⟨h1, h2.trans ?_, nofun, nofun, nofun⟩
      have hval : (limitedAngle v (activeAlpha s) s.acu.aPrev).value = stepped := congrArg Angle.value hlimited
      rw [hval]
      exact max_le hstepped.2 hband
  | _ => rw [hc] at hfiring; cases hfiring

/-- Settles O40: the cap of R33 in RUNNING at the inverter. -/
theorem inverterAngleKeepsTheMargin : Obligations.InverterAngleKeepsTheMargin := by
  intro s hrole hc mu m
  have hmu : presentMu s = mu := if_pos ⟨hrole, hc⟩
  obtain ⟨-, -, h⟩ := gammaCap_value_le s.store.setup.angles.alphaMin mu m
    (limitedAngle s.store.setup.angles (activeAlpha s) s.acu.aPrev)
  rw [appliedAngle_inverter hc hrole, hmu]
  exact h

/-! ### The interpolated overlap -/

theorem tableEntry_eq (st : Store) {i j : Nat} (hi : i < 33) (hj : j < 8) :
    tableEntry st i j = (st.table[i].entries[j] : Nat) := by
  simp [tableEntry, hi, hj]

/-- The cell of R30 and the two fractions in it, for an Id up to 4,000 and any Uac. -/
def overlapAt (st : Store) (i j : Nat) (fi fj : Int) : Nat :=
  let m0 := tableEntry st i j * 125 + (tableEntry st (i + 1) j - tableEntry st i j) * fi
  let m1 := tableEntry st i (j + 1) * 125 + (tableEntry st (i + 1) (j + 1) - tableEntry st i (j + 1)) * fi
  ((m0 * (100 - fj) + m1 * fj + 6250) / 12500).toNat

/-- The overlap is the interpolation in the cell that holds the point (R30). -/
theorem overlap_eq_overlapAt (st : Store) {id uac i j : Nat} {fi fj : Int} (hi : min (id / 125) 31 = i)
    (hj : min ((clampNat uac 500 1200 - 500) / 100) 6 = j) (hfi : (id : Int) - 125 * i = fi)
    (hfj : (clampNat uac 500 1200 : Int) - 500 - 100 * j = fj) : overlap st id uac = overlapAt st i j fi fj := by
  subst hi hj hfi hfj
  rfl

/-- A value between two others by a fraction lies within their common bound. -/
theorem interpolation_bounds {a b f F B : Int} (ha : 0 ≤ a ∧ a ≤ B) (hb : 0 ≤ b ∧ b ≤ B) (hf : 0 ≤ f ∧ f ≤ F) :
    0 ≤ a * (F - f) + b * f ∧ a * (F - f) + b * f ≤ B * F := by
  have h1 := mul_nonneg ha.1 (sub_nonneg.mpr hf.2)
  have h2 := mul_nonneg hb.1 hf.1
  have h3 := mul_le_mul_of_nonneg_right ha.2 (sub_nonneg.mpr hf.2)
  have h4 := mul_le_mul_of_nonneg_right hb.2 hf.1
  constructor <;> linarith [mul_sub B F f]

theorem overlapAt_le {st : Store} {i j : Nat} {fi fj : Int}
    (h : ∀ (i : Nat) (hi : i < 33) (j : Nat) (hj : j < 8), st.table[i].entries[j] ≤ 9000) (hi : i < 32) (hj : j < 7)
    (hfi : 0 ≤ fi ∧ fi ≤ 125) (hfj : 0 ≤ fj ∧ fj ≤ 100) : overlapAt st i j fi fj ≤ 9000 := by
  have entry : ∀ a b, a < 33 → b < 8 → 0 ≤ tableEntry st a b ∧ tableEntry st a b ≤ 9000 := by
    intro a b ha hb
    rw [tableEntry_eq st ha hb]
    exact ⟨Int.natCast_nonneg _, Int.ofNat_le.mpr (h a ha b hb)⟩
  have side : ∀ b, b < 8 → 0 ≤ tableEntry st i b * 125 + (tableEntry st (i + 1) b - tableEntry st i b) * fi ∧
      tableEntry st i b * 125 + (tableEntry st (i + 1) b - tableEntry st i b) * fi ≤ 9000 * 125 := by
    intro b hb
    have hbound := interpolation_bounds (entry i b (by omega) hb) (entry (i + 1) b (by omega) hb) hfi
    have hform : tableEntry st i b * (125 - fi) + tableEntry st (i + 1) b * fi =
        tableEntry st i b * 125 + (tableEntry st (i + 1) b - tableEntry st i b) * fi := by ring
    rwa [hform] at hbound
  have hsum := interpolation_bounds (side j (by omega)) (side (j + 1) (by omega)) hfj
  simp only [overlapAt]
  omega

/-- The clamped Uac and its place on the table's axis (R30). -/
theorem clampNat_uac (uac : Nat) : clampNat uac 500 1200 = max 500 (min uac 1200) := by
  unfold clampNat
  split <;> try split
  all_goals omega

/-- Settles O41. -/
theorem overlapInterpolates : Obligations.OverlapInterpolates := by
  intro st h
  refine ⟨fun id uac hid => ?_, fun i hi j hj => ?_, fun uac huac => ?_, fun id uac huac => ?_⟩
  · rw [overlap_eq_overlapAt st rfl rfl rfl rfl, clampNat_uac]
    exact overlapAt_le h (by omega) (by omega) (by omega) (by omega)
  · rw [overlap_eq_overlapAt st (i := i) (j := j) (fi := 0) (fj := 0) (by omega) (by rw [clampNat_uac]; omega) (by omega)
      (by rw [clampNat_uac]; omega)]
    unfold overlapAt
    rw [tableEntry_eq st (i := i) (j := j) (by omega) (by omega)]
    simp only [Int.mul_zero, Int.add_zero, Int.sub_zero]
    omega
  · rw [overlap_eq_overlapAt st (i := 31) (j := 6) (fi := 125) (fj := 100) rfl (by rw [clampNat_uac]; omega) rfl
      (by rw [clampNat_uac]; omega)]
    have hentry := tableEntry_eq st (i := 32) (j := 7) (by omega) (by omega)
    simp only [overlapAt, Int.reduceSub, Nat.reduceAdd, hentry]
    omega
  · have hclamp : clampNat uac 500 1200 = clampNat 500 500 1200 := by
      rw [clampNat_uac, clampNat_uac]
      omega
    simp only [overlap, hclamp]

end Sys2Proof.Machine


/-! PROOF. Frames as bytes: what a receiver makes of a whole frame, and what the part sends (R159 to R162). -/

namespace Sys2Proof.Machine

variable {s t : State}

/-! ### A whole frame -/

/-- What a frame with a good CRC turns out to be on its line (R160). -/
def frameOutcome (line : Line) (kind tag : Byte) (body : List Byte) : FrameOutcome :=
  match line with
  | .control => .control (controlFrameOf kind tag body)
  | .measurement => measurementRecord kind body
  | .ret v => returnLineRecord v kind body

/-- The bytes after the length byte end the frame at the last of them (R160). -/
theorem receiveBytes_fill {line : Line} {t n : Nat} {rest : List Byte} (h : rest.length = n + 2) :
    receiveBytes line t (.reading n [] t) rest = (.hunting, [judgeFrame line n rest]) := by
  have hne : rest ≠ [] := by rintro rfl; cases h
  obtain ⟨init, last, rfl⟩ : ∃ init last, rest = init ++ [last] := ⟨_, _, (List.dropLast_append_getLast hne).symm⟩
  have hlen : init.length = n + 1 := by simpa using h
  have hinit : init ≠ [] := by rintro rfl; cases hlen
  have hread := receiveBytes_reading (line := line) (t := t) (n := n) init (got := []) (last := t)
    (Nat.le_add_right _ _) (by simp [hlen]) hinit
  rw [receiveBytes_append, hread]
  simp [receiveBytes, receiveByte, gapPassed, hlen]

/-- A hunting receiver takes a delimiter and a good length byte, and then reads the frame to its end (R160). -/
theorem receiveBytes_frame {line : Line} {t : Nat} {n : Byte} {rest : List Byte} (h1 : 2 ≤ n.toNat) (h2 : n.toNat ≤ 250)
    (h : rest.length = n.toNat + 2) :
    receiveBytes line t .hunting (0x7E :: n :: rest) = (.hunting, [judgeFrame line n.toNat rest]) := by
  have hgood : ¬(n.toNat < 2 ∨ 250 < n.toNat) := by omega
  have hfill := receiveBytes_fill (line := line) (t := t) h
  simp only [receiveBytes, receiveByte, gapPassed, huntByte, delimiter, if_true, Nat.not_lt.mpr (Nat.le_add_right t _),
    decide_false, Bool.false_eq_true, if_false, hgood, hfill]
  rfl

/-- A frame as sent is judged by its kind and body on its line: its CRC is good (R160, R161). -/
theorem judgeFrame_frame (line : Line) (kind tag : Byte) (body : List Byte) :
    judgeFrame line (body.length + 2)
      (kind :: tag :: body ++ twoBytes (crc16 (BitVec.ofNat 8 (body.length + 2) :: kind :: tag :: body))) =
      frameOutcome line kind tag body := by
  have htake : (kind :: tag :: body ++ twoBytes (crc16 (BitVec.ofNat 8 (body.length + 2) :: kind :: tag :: body))).take
      (body.length + 2) = kind :: tag :: body := List.take_left' rfl
  have hdrop : (kind :: tag :: body ++ twoBytes (crc16 (BitVec.ofNat 8 (body.length + 2) :: kind :: tag :: body))).drop
      (body.length + 2) = twoBytes (crc16 (BitVec.ofNat 8 (body.length + 2) :: kind :: tag :: body)) := List.drop_left' rfl
  simp only [judgeFrame, htake, hdrop, if_true]
  cases line <;> rfl

/-- A hunting receiver reads a whole frame back (R160). -/
theorem receiveBytes_frameBytes (line : Line) (t : Nat) (kind tag : Byte) {body : List Byte} (h : body.length ≤ 248) :
    receiveBytes line t .hunting (frameBytes kind tag body) = (.hunting, [frameOutcome line kind tag body]) := by
  have hn : (BitVec.ofNat 8 (body.length + 2)).toNat = body.length + 2 := by
    rw [BitVec.toNat_ofNat]
    omega
  have hread := receiveBytes_frame (line := line) (t := t) (n := BitVec.ofNat 8 (body.length + 2))
    (rest := kind :: tag :: body ++ twoBytes (crc16 (BitVec.ofNat 8 (body.length + 2) :: kind :: tag :: body)))
    (by omega) (by omega) (by rw [hn]; simp [twoBytes])
  rw [hn, judgeFrame_frame] at hread
  exact hread

/-! ### Bodies read back -/

theorem ofTwoBytes_twoBytes (x : BitVec 16) : ofTwoBytes (x.extractLsb' 8 8) (x.extractLsb' 0 8) = x := by
  exact (BitVec.extractLsb'_append_extractLsb'_eq_extractLsb' (start₁ := 0) (len₁ := 8) rfl).trans
    BitVec.extractLsb'_eq_self

theorem toNat_ofNat_byte {n : Nat} (h : fitsByte n = true) : (BitVec.ofNat 8 n).toNat = n := by
  simp only [fitsByte, decide_eq_true_eq] at h
  rw [BitVec.toNat_ofNat]
  omega

theorem toNat_ofNat_word {n : Nat} (h : fitsTwoBytes n = true) : (BitVec.ofNat 16 n).toNat = n := by
  simp only [fitsTwoBytes, decide_eq_true_eq] at h
  rw [BitVec.toNat_ofNat]
  omega

/-- The bytes of a present set, taken from the most significant one down, give its value back. -/
theorem foldl_presentBytes (p : BitVec 120) (k : Nat) :
    ((List.range k).reverse.map fun i => p.extractLsb' (8 * i) 8).foldl (fun acc b => acc * 256 + b.toNat)
      (p.toNat / 2 ^ (8 * k)) = p.toNat := by
  induction k with
  | zero => simp
  | succ k ih =>
    rw [List.range_succ, List.reverse_append, List.reverse_singleton, List.singleton_append, List.map_cons,
      List.foldl_cons]
    have hstep : p.toNat / 2 ^ (8 * (k + 1)) * 256 + (p.extractLsb' (8 * k) 8).toNat = p.toNat / 2 ^ (8 * k) := by
      rw [BitVec.extractLsb'_toNat, Nat.shiftRight_eq_div_pow, show 8 * (k + 1) = 8 * k + 8 by ring, Nat.pow_add,
        ← Nat.div_div_eq_div_mul]
      exact Nat.div_add_mod' _ _
    rw [hstep]
    exact ih

theorem presentOfBytes_presentBytes (p : BitVec 120) : presentOfBytes (presentBytes p) = p := by
  have h := foldl_presentBytes p 15
  rw [Nat.div_eq_of_lt p.isLt] at h
  exact (congrArg (BitVec.ofNat 120) h).trans (by simp)

theorem returnOfBody_returnBody {r : ReturnRecord} (h : returnFits r = true) : returnOfBody (returnBody r) = some r := by
  simp only [returnFits, Bool.and_eq_true, decide_eq_true_eq, List.all_eq_true] at h
  obtain ⟨⟨⟨hvalve, hwindow⟩, hcount⟩, hlist⟩ := h
  have hprotective : (r.protective.map (BitVec.ofNat 8)).map BitVec.toNat = r.protective := by
    rw [List.map_map]
    exact (List.map_congr_left fun n hn => toNat_ofNat_byte (hlist n hn)).trans (List.map_id _)
  have hlen : (BitVec.ofNat 8 r.protective.length).toNat = r.protective.length := toNat_ofNat_byte (by
    simp only [fitsByte, decide_eq_true_eq]
    omega)
  have htake : (presentBytes r.present ++ BitVec.ofNat 8 r.protective.length :: r.protective.map (BitVec.ofNat 8)).take 15 =
      presentBytes r.present := List.take_left' rfl
  have hdrop : (presentBytes r.present ++ BitVec.ofNat 8 r.protective.length :: r.protective.map (BitVec.ofNat 8)).drop 15 =
      BitVec.ofNat 8 r.protective.length :: r.protective.map (BitVec.ofNat 8) := List.drop_left' rfl
  simp only [returnBody, twoBytes, List.cons_append, List.nil_append, returnOfBody, htake, hdrop, hlen, List.length_map,
    ofTwoBytes_twoBytes, presentOfBytes_presentBytes, toNat_ofNat_byte hvalve, toNat_ofNat_word hwindow, hprotective, hcount,
    and_self, if_true]

theorem length_returnBody_le {r : ReturnRecord} (h : returnFits r = true) : (returnBody r).length ≤ 248 := by
  simp only [returnFits, Bool.and_eq_true, decide_eq_true_eq] at h
  simp only [returnBody, twoBytes, presentBytes, List.length_append, List.length_cons, List.length_map, List.length_nil]
  omega

/-- The frame of an outgoing record in its parts: delimiter, covered bytes, CRC (R159, R161). -/
theorem outFrame_eq (r : OutRecord) : ∃ covered : List Byte, covered.length = recordLength r + 1 ∧
    covered.head? = some (BitVec.ofNat 8 (recordLength r)) ∧ outFrame r = delimiter :: (covered ++ twoBytes (crc16 covered)) :=
  ⟨BitVec.ofNat 8 (recordLength r) :: BitVec.ofNat 8 (outRecordCode r) :: BitVec.ofNat 8 (outRecordTag r) :: outRecordBody r,
    rfl, rfl, rfl⟩

/-- Settles O34: each record by its layout, then the control link's frames, then the frames sent. -/
theorem partnerFramesReadBack : Obligations.PartnerFramesReadBack := by
  refine ⟨fun line t tag c bytes hwf hbytes hline => ?_, fun t kind tag body h => receiveBytes_frameBytes _ t _ _ h,
    fun r => ?_⟩
  · cases c with
    | sample seq id uac =>
      cases hbytes
      subst hline
      simp only [wellFormed, Bool.and_eq_true, decide_eq_true_eq] at hwf
      obtain ⟨⟨⟨hseq, hlo⟩, hhi⟩, huac⟩ := hwf
      have hid : (BitVec.ofInt 16 id).toInt = id := by
        rw [BitVec.toInt_ofInt]
        exact Int.bmod_eq_of_le (by omega) (by omega)
      rw [receiveBytes_frameBytes _ _ _ _ (by simp [sampleBody, twoBytes])]
      simp only [frameOutcome, measurementRecord, sampleBody, twoBytes, List.cons_append, List.nil_append, if_true,
        ofTwoBytes_twoBytes, toNat_ofNat_byte hseq, toNat_ofNat_word huac, hid]
    | crossing kind lag =>
      cases hbytes
      subst hline
      simp only [wellFormed, Bool.and_eq_true] at hwf
      obtain ⟨hkind, hlag⟩ := hwf
      rw [receiveBytes_frameBytes _ _ _ _ (by simp [crossingBody])]
      simp only [frameOutcome, measurementRecord, crossingBody, if_true, toNat_ofNat_byte hkind, toNat_ofNat_byte hlag]
      rfl
    | returnRecord v r =>
      cases hbytes
      subst hline
      rw [receiveBytes_frameBytes _ _ _ _ (length_returnBody_le hwf)]
      simp only [frameOutcome, returnLineRecord, if_true, returnOfBody_returnBody hwf]
    | reappear v valve =>
      cases hbytes
      subst hline
      rw [receiveBytes_frameBytes _ _ _ _ (by simp [reappearBody])]
      simp only [frameOutcome, returnLineRecord, reappearBody, if_true, toNat_ofNat_byte (n := valve) hwf]
      rfl
    | _ => cases hbytes
  · obtain ⟨covered, hlen, hhead, hframe⟩ := outFrame_eq r
    rw [hframe]
    refine ⟨?_, ?_⟩
    · cases covered with
      | nil => cases hlen
      | cons b bs => exact hhead
    · rw [show recordLength r + 2 = (recordLength r + 1) + 1 from rfl, List.drop_succ_cons, ← hlen, List.drop_left,
        List.drop_one, List.tail_cons, List.take_left]

end Sys2Proof.Machine


/-! PROOF. What frames bring and take along: the control link's frames, the records sent, the frames that fail, and the
generators' expiries (R160, R163, R164, R166, R64, R65). -/

namespace Sys2Proof.Machine

variable {s t : State}

/-! ### Frames of the control link -/

theorem kindOfCode?_requestCode (k : RequestKind) : kindOfCode? (requestCode k) = some k := by cases k <;> rfl

theorem kindOfCode?_eq_none {n : Nat} (h : n = 0 ∨ 31 < n) : kindOfCode? n = none := by
  have hcodes : ∀ k ∈ allKinds, 1 ≤ requestCode k ∧ requestCode k ≤ 31 := by decide
  rw [kindOfCode?, List.find?_eq_none]
  intro k hk
  obtain ⟨h1, h2⟩ := hcodes k hk
  rw [beq_iff_eq]
  omega

theorem requestKind_bareRequest {k : RequestKind} {r : Request} (h : bareRequest? k = some r) : requestKind r = k := by
  cases k <;> cases h <;> rfl

/-- The body of a control frame with a known kind is a request of that kind, or a bad length (R164). -/
theorem controlFrameOf_known {kind tag : Byte} {body : List Byte} {k : RequestKind} (h : requestCode k = kind.toNat) :
    (controlFrameOf kind tag body).body = .badLength k ∨
      ∃ r, (controlFrameOf kind tag body).body = .request r ∧ requestKind r = k := by
  have hk : kindOfCode? kind.toNat = some k := by rw [← h, kindOfCode?_requestCode]
  simp only [controlFrameOf, hk]
  cases hb : bareRequest? k with
  | some r =>
    dsimp only
    split
    · exact .inr ⟨r, rfl, requestKind_bareRequest hb⟩
    · exact .inl rfl
  | none =>
    dsimp only
    split
    · next hfit => exact .inr ⟨_, rfl, hfit.2⟩
    · exact .inl rfl

theorem enqueue_eq (f : ControlFrame) (s : State) : enqueue f s = { s with port := { s.port with
    requests := if s.port.requests.length < 8 then s.port.requests ++ [f] else s.port.requests } } := by
  unfold enqueue Config.requestQueueCapacity
  split <;> rfl

/-- A link that is heard gives the resolver no new reason for a stop (R168). -/
theorem Quiet.heard (h : Quiet s) (hw : t.prot.waiting = s.prot.waiting) (hl : t.pru.lock = s.pru.lock)
    (hc : t.ctl.state = s.ctl.state) (hs : t.port.linkSilent = false) : Quiet t := by
  obtain ⟨h1, h2, h3, hphase, -⟩ | hu := h
  · refine .inl ⟨?_, ?_, ?_, ?_, ?_⟩
    · simpa only [isPending, hw] using h1
    · simpa only [isPending, hw] using h2
    · simpa only [isPending, hw] using h3
    · simpa only [conditionHolds, hl, hc] using hphase
    · simp only [conditionHolds, hs, Bool.false_and]
  · exact .inr (hc ▸ hu)

/-- Settles O31. -/
theorem controlFrameJoinsTheQueue : Obligations.ControlFrameJoinsTheQueue := by
  refine ⟨fun kind tag body => ⟨rfl, fun h => ?_, fun k h => controlFrameOf_known h⟩, fun s f hq hbetween => ?_⟩
  · simp only [controlFrameOf, kindOfCode?_eq_none h]
  · have hexec : exec (.controlFrame f) s = .next (settle (enqueue f (touchLink (frameEnded .control s)))) :=
      congrArg Host.Outcome.next (arrive_between hbetween _ _)
    rw [enqueue_eq] at hexec
    exact completes_of hexec rfl (hq.heard rfl rfl rfl rfl)

/-! ### Records sent -/

/-- The frame of a record with a fixed body (R165, R161). -/
theorem outFrame_of_body {r : OutRecord} {body : List Byte} (h : outRecordBody r = body) :
    recordLength r = body.length + 2 ∧
      outFrame r = frameBytes (BitVec.ofNat 8 (outRecordCode r)) (BitVec.ofNat 8 (outRecordTag r)) body := by
  subst h
  exact ⟨rfl, rfl⟩

/-- Settles O32: the record's event, then the bounds and the fixed frames. -/
theorem recordSentLeavesTheList : Obligations.RecordSentLeavesTheList := by
  refine ⟨fun s r rest start n ho hs hn hreach => ?_, fun r => ?_, fun k tag code => ?_, fun tag kind => ?_⟩
  · have hlen : sendingLength s.port = some n := by rw [sendingLength, ho, ← hn]; rfl
    have hend : sendEnd s.port = some (start + 8 * (4 + n)) := by rw [sendEnd_cons ho hs, hn]; rfl
    have hexec : exec (.recordSent n) s = .next (dropSent (atTime (start + 8 * (4 + n)) s)) := by
      rw [exec, execRecordSent, if_pos hlen, hend, onExpiry_taken hreach]
    rw [hexec]
    simp only [dropSent, atTime, ho, List.tail_cons, List.head?_cons, Option.map_some, List.isEmpty_iff]
  · have hbody := outRecordBody_length_le r
    simp only [Config.bodyLimit] at hbody
    refine ⟨Nat.le_add_left _ _, by simp only [recordLength]; omega, ?_⟩
    rw [outFrame, frameBytes_length, recordLength]
    omega
  · exact outFrame_of_body (r := .reply k tag code .empty) (body := [BitVec.ofNat 8 (completionCode code)]) rfl
  · exact outFrame_of_body (r := .unknownReply tag kind) (body := [0x1A, BitVec.ofNat 8 kind]) rfl

/-! ### Frames that fail -/

/-- Bytes whose frames are all discarded, read by a hunting receiver that hunts again, change nothing (R160). -/
theorem exec_discarded_hunting {line : Line} {bytes : List Byte} (h : lineReceiver s.receivers line = .hunting)
    (hr : receiveBytes line s.now .hunting bytes = (.hunting, [.discarded])) :
    exec (.discardedFrame line bytes) s = .next s := by
  rw [exec, execDiscardedFrame, takeBytes_of_discarded, h, hr]
  · have hsame : setLineReceiver s.receivers line .hunting = s.receivers := by
      rw [← h]
      exact setLineReceiver_get _ _
    simp only [hsame]
  · rw [h, hr]
    simp

theorem judgeFrame_badCrc {line : Line} {n : Byte} {rest : List Byte}
    (h : rest.drop n.toNat ≠ twoBytes (crc16 (n :: rest.take n.toNat))) : judgeFrame line n.toNat rest = .discarded := by
  rw [judgeFrame, BitVec.ofNat_toNat, BitVec.setWidth_eq]
  exact if_neg h

/-- The measurement line carries SAMPLE and CROSSING of their own lengths (R151). -/
theorem measurementRecord_discarded {kind : Byte} {body : List Byte}
    (h : (kind ≠ 0x40 ∧ kind ≠ 0x41) ∨ (kind = 0x40 ∧ body.length ≠ 5) ∨ (kind = 0x41 ∧ body.length ≠ 2)) :
    measurementRecord kind body = .discarded := by
  unfold measurementRecord
  obtain ⟨h1, h2⟩ | ⟨rfl, hlen⟩ | ⟨rfl, hlen⟩ := h
  · rw [if_neg h1, if_neg h2]
  · rw [if_pos rfl]
    split
    · exact absurd rfl hlen
    · rfl
  · rw [if_neg (by decide), if_pos rfl]
    split
    · exact absurd rfl hlen
    · rfl

theorem returnOfBody_eq_none {body : List Byte}
    (h : body.length < 19 ∨ ∃ c, body[18]? = some c ∧ (8 < c.toNat ∨ body.length ≠ 19 + c.toNat)) :
    returnOfBody body = none := by
  unfold returnOfBody
  split
  · next valve w1 w0 rest =>
    dsimp only
    split
    · next count list hdrop =>
      have hcount : (valve :: w1 :: w0 :: rest)[18]? = some count := by
        have h15 : (rest.drop 15)[0]? = some count := by rw [hdrop]; rfl
        rwa [List.getElem?_drop] at h15
      have hlen : rest.length = 15 + (list.length + 1) := by
        have hl := congrArg List.length hdrop
        rw [List.length_drop, List.length_cons] at hl
        omega
      refine if_neg ?_
      rintro ⟨hle, hlist⟩
      simp only [List.length_cons] at h
      obtain hshort | ⟨c, hc, hbad⟩ := h
      · omega
      · rw [hcount] at hc
        cases hc
        omega
    · rfl
  · rfl

/-- A return line carries RETURN and REAPPEAR of their own lengths (R162). -/
theorem returnLineRecord_discarded (v : Valve) {kind : Byte} {body : List Byte}
    (h : (kind ≠ 0x50 ∧ kind ≠ 0x51) ∨ (kind = 0x51 ∧ body.length ≠ 1) ∨
      (kind = 0x50 ∧ (body.length < 19 ∨ ∃ c, body[18]? = some c ∧ (8 < c.toNat ∨ body.length ≠ 19 + c.toNat)))) :
    returnLineRecord v kind body = .discarded := by
  unfold returnLineRecord
  obtain ⟨h1, h2⟩ | ⟨rfl, hlen⟩ | ⟨rfl, hbad⟩ := h
  · rw [if_neg h1, if_neg h2]
  · rw [if_neg (by decide), if_pos rfl]
    split
    · exact absurd rfl hlen
    · rfl
  · rw [if_pos rfl, returnOfBody_eq_none hbad]

/-- A receiver inside a frame gives it up at the 41st tick after its last byte (R160). -/
theorem gapExpiry_of_last {r : Receiver} {last : Nat} (h : r = .awaitLength last ∨ ∃ n got, r = .reading n got last) :
    gapExpiry r = some (last + 41) := by
  obtain rfl | ⟨n, got, rfl⟩ := h <;> rfl

/-- A byte after the gap is hunted through (R160). -/
theorem receiveByte_after_gap {line : Line} {r : Receiver} {last t : Nat} (b : Byte)
    (h : r = .awaitLength last ∨ ∃ n got, r = .reading n got last) (ht : last + 40 < t) :
    receiveByte line t r b = (huntByte t b, some .discarded) := by
  have hgap : gapPassed t r = true := by
    obtain rfl | ⟨n, got, rfl⟩ := h <;> exact decide_eq_true ht
  rw [receiveByte.eq_def, if_pos hgap]

/-- A good record inside a frame that it does not fill is read on (R160). -/
theorem exec_inside {line : Line} {n last : Nat} {got bytes : List Byte} {c : Instr} {good : State → State}
    (h : lineReceiver s.receivers line = .reading n got last) (ht : s.now ≤ last + 40) (hne : bytes ≠ [])
    (hlen : got.length + bytes.length < n + 2) (hexec : exec c s = .next (arrive line bytes good s)) :
    exec c s = .next { s with receivers := setLineReceiver s.receivers line (.reading n (got ++ bytes) s.now) } := by
  have hinside : betweenFrames line s = false := by
    rw [betweenFrames_of_last (.inr ⟨n, got, h⟩)]
    exact decide_eq_false (Nat.not_lt.mpr ht)
  have hread := receiveBytes_reading (line := line) bytes ht hlen hne
  rw [hexec, arrive_inside hinside, takeBytes_of_discarded, h, hread]
  rw [h, hread]
  exact nofun

theorem partnerFrame_ne_nil {tag : Byte} {c : Instr} {bytes : List Byte} (h : partnerFrame tag c = some bytes) :
    bytes ≠ [] := by
  rintro rfl
  cases c <;> cases h

/-- Settles O33. -/
theorem failedFramesChangeNothing : Obligations.FailedFramesChangeNothing := by
  intro s line heard
  refine ⟨fun hunting => ⟨fun n rest h1 h2 hlen hcrc => ?_, fun n hn => ?_, fun kind tag body hlen hbad => ?_⟩,
    fun last hin => ⟨fun hgap b => ?_, fun hreach => ?_⟩, fun n last got bytes c hin ht hbytes hlen hline => ?_⟩
  · refine exec_discarded_hunting hunting ?_
    rw [receiveBytes_frame h1 h2 hlen, judgeFrame_badCrc hcrc]
  · refine exec_discarded_hunting hunting ?_
    simp only [receiveBytes, receiveByte, gapPassed, huntByte, delimiter, if_true, Nat.not_lt.mpr (Nat.le_add_right s.now _),
      decide_false, Bool.false_eq_true, if_false, hn]
    rfl
  · refine exec_discarded_hunting hunting ?_
    rw [receiveBytes_frameBytes _ _ _ _ hlen]
    obtain ⟨rfl, hm⟩ | ⟨⟨v, rfl⟩, hv⟩ := hbad
    · rw [frameOutcome, measurementRecord_discarded hm]
    · rw [frameOutcome, returnLineRecord_discarded v hv]
  · have hbyte := receiveByte_after_gap (line := line) b hin hgap
    have hread : receiveBytes line s.now (lineReceiver s.receivers line) [b] = (huntByte s.now b, [.discarded]) := by
      rw [receiveBytes, hbyte]
      rfl
    rw [exec, execDiscardedFrame, takeBytes_of_discarded, hread]
    · rfl
    · rw [hread]
      simp
  · rw [exec, execByteGapTimeout, gapExpiry_of_last hin, onExpiry_taken hreach]
    rfl
  · have hne := partnerFrame_ne_nil hbytes
    have arriving : ∀ l : Line, l = line → (partnerFrame (Config.partnerTag l s.now) c).getD [] = bytes := by
      rintro l rfl
      rw [hbytes]
      rfl
    cases c with
    | sample seq id uac =>
      subst hline
      exact exec_inside hin ht hne hlen (by rw [← arriving _ rfl]; rfl)
    | crossing kind lag =>
      subst hline
      exact exec_inside hin ht hne hlen (by rw [← arriving _ rfl]; rfl)
    | returnRecord v r =>
      subst hline
      exact exec_inside hin ht hne hlen (by rw [← arriving _ rfl]; rfl)
    | reappear v valve =>
      subst hline
      exact exec_inside hin ht hne hlen (by rw [← arriving _ rfl]; rfl)
    | _ => exact hline.elim

/-! ### The generators' expiries -/

theorem rearmRepeat_train (v : AngleValues) (e z : Nat) (g : Generator) (hm : g.mode = .train) (hz : g.trainEnd = some z) :
    rearmRepeat v e g = if e + v.repeatTicks < z then some (e + v.repeatTicks) else none := by
  simp only [rearmRepeat, hm, hz, repeatBefore]

theorem rearmRepeat_hold (v : AngleValues) (e : Nat) (g : Generator) (hm : g.mode = .hold) :
    rearmRepeat v e g = some (e + v.repeatTicks) := by
  simp only [rearmRepeat, hm]

/-- Settles O49. -/
theorem repeatAndTrainEndExpire : Obligations.RepeatAndTrainEndExpire := by
  intro s v e hreach g next lit pulsed
  refine ⟨fun hrepeat => ?_, fun hend => ?_⟩
  · have hexec : exec (.repeatExpiry v) s = .next (repeatValve v e (atTime e s)) := by
      have hrepeat' : s.gens[v].repeatAt = some e := hrepeat
      rw [exec, execRepeatExpiry, hrepeat', onExpiry_taken hreach]
      rfl
    have pulse : ∀ h : Generator, repeatPulseAt s.store.setup.angles e g = h → pulsed h := by
      rintro h rfl
      exact hexec
    refine ⟨fun z hm hz => pulse _ ?_, fun hm => pulse _ ?_⟩
    · rw [repeatPulseAt, rearmRepeat_train _ _ _ _ hm hz, hm, hz]
      rfl
    · rw [repeatPulseAt, rearmRepeat_hold _ _ _ hm, hm]
      rfl
  · have hend' : s.gens[v].trainEnd = some e := hend
    rw [exec, execTrainEnd, hend', onExpiry_taken hreach]
    rfl

end Sys2Proof.Machine


/-! PROOF. Sources that stand through the close of an event, what the close sends, and the expiries of the timers (R99, R100, R107,
R110, R122, R128, R154, R166). -/

namespace Sys2Proof.Machine

variable {s t : State}

/-! ### What notices keep of the port -/

/-- `J` holds of the port through any number of notices. -/
def NoticeKept (J : Port → Prop) : Prop := ∀ (r : OutRecord) (s : State), J s.port → J (notify r s).port

section
variable {J : Port → Prop}

theorem NoticeKept.endSource (k : NoticeKept J) (h : J s.port) (src : Source) (c : EndCause) :
    J (endSource src c s).port := by
  rw [Machine.endSource, placeEnded_outgoing]
  exact k _ _ h

theorem NoticeKept.rereadOne (k : NoticeKept J) (h : J s.port) (src : Source) : J (rereadOne src s).port := by
  unfold Machine.rereadOne
  repeat' split
  · exact h
  · exact h
  · exact k.endSource h _ _
  · exact h
  · exact h

theorem NoticeKept.rereadConditions (k : NoticeKept J) (h : J s.port) : J (rereadConditions s).port := by
  simp only [Machine.rereadConditions, List.foldl]
  exact k.rereadOne (k.rereadOne (k.rereadOne (k.rereadOne (k.rereadOne h _) _) _) _) _

theorem NoticeKept.changeState (k : NoticeKept J) {u : State} (hu : u.port = s.port) (h : J s.port) (c : ConvState)
    (cause : StateCause) (v : Option Valve) : J (changeState c cause v u).port :=
  k.rereadConditions (k _ _ (hu ▸ h))

theorem NoticeKept.enterBlocked (k : NoticeKept J) (h : J s.port) (cause : StateCause) (v : Option Valve) :
    J (enterBlocked cause v s).port := by
  simp only [Machine.enterBlocked]
  exact k.changeState (by simp) h _ _ _

theorem NoticeKept.enterBypass (k : NoticeKept J) (h : J s.port) (cause : StateCause) : J (enterBypass cause s).port := by
  simp only [Machine.enterBypass]
  exact k.changeState (by simp) h _ _ _

theorem NoticeKept.enterRetard (k : NoticeKept J) (h : J s.port) (cause : StateCause) : J (enterRetard cause s).port := by
  simp only [Machine.enterRetard]
  split
  · refine k.enterBlocked (k.changeState (s := s) ?_ h _ _ _) _ _
    rfl
  · refine k.changeState (s := s) ?_ h _ _ _
    rfl

theorem NoticeKept.stopDemand (k : NoticeKept J) (h : J s.port) (src : Source) : J (stopDemand src s).port := by
  unfold Machine.stopDemand
  split
  · split
    · exact k.enterBypass h _
    · exact k.enterRetard h _
  · exact k.enterBlocked h _ _
  · exact k.enterBlocked h _ _
  · exact k.enterBlocked h _ _
  all_goals exact h

theorem NoticeKept.startTimed (k : NoticeKept J) (h : J s.port) (src : Source) : J (startTimed src s).port := by
  simp only [Machine.startTimed]
  split
  · split
    · refine k.endSource ?_ _ _
      exact h
    · exact h
  · exact h

theorem NoticeKept.grantOne (k : NoticeKept J) (h : J s.port) (src : Source) : J (grantOne src s).port := by
  have hmoved : J (moveToAction src s).port := by
    unfold moveToAction
    refine k _ _ ?_
    exact h
  unfold Machine.grantOne startAction
  split
  · refine k.stopDemand ?_ _
    exact hmoved
  · exact k.stopDemand hmoved _
  · exact k.startTimed hmoved _
  · exact k.startTimed hmoved _

theorem NoticeKept.grantLoop (k : NoticeKept J) (n : Nat) (s : State) (h : J s.port) : J (grantLoop n s).port := by
  induction n generalizing s with
  | zero => exact h
  | succ n ih =>
    unfold Machine.grantLoop
    split
    · exact ih _ (k.grantOne h _)
    · exact h

theorem NoticeKept.settle (k : NoticeKept J) (h : J s.port) : J (settle s).port :=
  k.grantLoop 32 _ (k.rereadConditions h)

end

/-- The outgoing list is full at `l`, and a notice has been lost (R166). -/
def Overrun (l : List OutRecord) (p : Port) : Prop := p.outgoing = l ∧ p.noticeLost = true

theorem notify_full (r : OutRecord) (h : 32 ≤ s.port.outgoing.length) : Overrun s.port.outgoing (notify r s).port := by
  unfold notify Config.outgoingCapacity
  rw [if_neg (Nat.not_lt.mpr h)]
  exact ⟨rfl, rfl⟩

theorem overrun_kept {l : List OutRecord} (hl : 32 ≤ l.length) : NoticeKept (Overrun l) := by
  intro r s h
  obtain ⟨rfl, -⟩ := h
  exact notify_full r hl

theorem changeState_full (c : ConvState) (u : StateCause) (v : Option Valve) (h : 32 ≤ s.port.outgoing.length) :
    Overrun s.port.outgoing (changeState c u v s).port :=
  (overrun_kept h).rereadConditions (notify_full (s := { s with ctl := { s.ctl with state := c } }) _ h)

/-! ### Sources that stand -/

/-- An edge source is pending or in action, and its action would not end at once (R99, R107). -/
def Standing (b : Source) (s : State) : Prop :=
  (isPending s b = true ∨ isInAction s b = true) ∧ actionDuration s.store.setup.guard b ≠ some 0

theorem Standing.of_positions {b : Source} (h : Standing b s) (hs : t.store = s.store)
    (hp : isPending s b = true → isPending t b = true ∨ isInAction t b = true)
    (ha : isInAction s b = true → isPending t b = true ∨ isInAction t b = true) : Standing b t :=
  ⟨h.1.elim hp ha, by rw [hs]; exact h.2⟩

theorem standing_moved {a b : Source} (h : Standing b s) : Standing b (moveToAction a s) := by
  refine h.of_positions (by simp) (fun hp => ?_) (fun ha => .inr (by simp [ha]))
  by_cases hab : a = b
  · exact .inr (by simp [hab])
  · exact .inl (by simp [hab, hp])

theorem Standing.of_prot {b : Source} (h : Standing b s) (hs : t.store = s.store) (hw : t.prot.waiting = s.prot.waiting)
    (ha : t.prot.inAction = s.prot.inAction) : Standing b t :=
  h.of_positions hs (fun hp => .inl (by rw [isPending_congr hw]; exact hp))
    (fun hi => .inr (by rw [isInAction_congr ha]; exact hi))

theorem Standing.ended {a b : Source} (h : Standing b s) (hab : a ≠ b) (c : EndCause) : Standing b (endSource a c s) :=
  h.of_positions (by simp) (fun hp => .inl (by simp [hab, hp])) (fun ha => .inr (by simp [ha, hab.symm]))

theorem standing_timed {a b : Source} (h : Standing b s) (x : Option Nat) :
    Standing b { moveToAction a s with prot := setActionTimer a x (moveToAction a s).prot } :=
  (standing_moved h).of_prot rfl (setActionTimer_waiting a x _) (setActionTimer_inAction a x _)

/-- An edge source that stands goes on standing through the close of an event: only its own end takes it away. -/
theorem standing_close {b : Source} (hb : isEdgeSource b = true) : CloseKept (Standing b) where
  frame hp hs h := h.of_prot hs (by rw [hp]) (by rw [hp])
  becomesPending src s _ _ h := h.of_positions rfl (fun hp => .inl (by simp [hp])) (fun ha => .inr (by simp [ha]))
  withdrawn src s he h := by
    have hne : src ≠ b := by rintro rfl; rw [he] at hb; cases hb
    exact h.of_positions rfl (fun hp => .inl (by simp [hp, hne])) (fun ha => .inr (by simp [ha]))
  cleared src s hk _ h := h.ended (by rintro rfl; rw [isClearedSource_not_edge hk] at hb; cases hb) _
  moved src s _ _ h := standing_moved h
  tripped s _ h := (standing_moved h).of_prot rfl rfl rfl
  timed src s x _ _ h := standing_timed h x
  timedOut src s x _ hd h := (standing_timed h x).ended (by rintro rfl; exact h.2 hd) _

theorem inAction_of_prot {b : Source} (h : isInAction s b = true) (ha : t.prot.inAction = s.prot.inAction) :
    isInAction t b = true := by
  rw [isInAction_congr ha]
  exact h

theorem inAction_timed {a b : Source} (h : isInAction s b = true) (x : Option Nat) :
    isInAction { moveToAction a s with prot := setActionTimer a x (moveToAction a s).prot } b = true :=
  inAction_of_prot (s := moveToAction a s) (by simp [h]) (setActionTimer_inAction a x _)

/-- A source in action that only the host ends stays in action through the close of an event (R109). -/
theorem inAction_close {b : Source} (hc : isClearedSource b = false) (hd : ∀ g, actionDuration g b = none) :
    CloseKept fun s => isInAction s b = true where
  frame hp _ h := inAction_of_prot h (by rw [hp])
  becomesPending _ _ _ _ h := by simpa using h
  withdrawn _ _ _ h := by simpa using h
  cleared src s hk _ h := by
    have hne : b ≠ src := by rintro rfl; rw [hc] at hk; cases hk
    simp [h, hne]
  moved _ _ _ _ h := by simp [h]
  tripped s _ h := inAction_of_prot (s := moveToAction .valveTrip s) (by simp [h]) rfl
  timed src s x _ _ h := inAction_timed h x
  timedOut src s x _ hdur h := by
    have hne : b ≠ src := by rintro rfl; rw [hd] at hdur; cases hdur
    rw [isInAction_endSource, inAction_timed h x]
    exact decide_eq_true hne

end Sys2Proof.Machine


/-! PROOF. Samples, staleness, and the expiries of the resolver's and the controller's timers (R36 to R38, R107, R110, R122, R128,
R152 to R155), and RESTART (R116, R135). -/

namespace Sys2Proof.Machine

variable {s t : State}

/-! ### Samples -/

theorem clampNat_eq (x lo hi : Nat) (h : lo ≤ hi) : clampNat x lo hi = max lo (min x hi) := by
  unfold clampNat
  split <;> try split
  all_goals omega

theorem clampInt_eq (x lo hi : Int) (h : lo ≤ hi) : clampInt x lo hi = max lo (min x hi) := by
  unfold clampInt
  split <;> try split
  all_goals omega

/-- What an accepted sample leaves: the clamped values, the timer, no staleness, and the CFP margin held where the voltage is low
or staleness ends (R153, R155, R36, R38). -/
theorem acceptSample_eq (seq : Nat) (id : Int) (uac : Nat) (s : State) :
    let raised := s.meas.stale = true ∨ min uac 2000 < s.store.setup.guard.cfpThreshold
    acceptSample seq id uac s = { s with
      meas := ⟨(max 0 (min id 4000)).toNat, min uac 2000, some seq,
        some (s.now + s.store.setup.guard.staleTimeout * 1000), false⟩
      acu := { s.acu with
        cfpMargin := if raised then s.store.setup.guard.cfpBoost else s.acu.cfpMargin
        cfpHold := if raised then some (s.now + s.store.setup.guard.cfpHold * 10000) else s.acu.cfpHold } } := by
  intro raised
  have huac : clampNat uac 0 2000 = min uac 2000 := by rw [clampNat_eq _ _ _ (by omega)]; omega
  simp only [acceptSample, endStale, holdSample, huac, clampInt_eq id 0 4000 (by omega)]
  by_cases hstale : s.meas.stale = true
  · have hr : raised := .inl hstale
    simp only [if_pos hr, if_pos hstale]
    by_cases hlow : min uac 2000 < s.store.setup.guard.cfpThreshold
    · exact if_pos hlow
    · exact if_neg hlow
  · have hfresh : s.meas.stale = false := by rwa [Bool.not_eq_true] at hstale
    simp only [if_neg hstale]
    by_cases hlow : min uac 2000 < s.store.setup.guard.cfpThreshold
    · have hr : raised := .inr hlow
      simp only [if_pos hr, hfresh]
      exact if_pos hlow
    · have hr : ¬raised := fun h => h.elim hstale hlow
      simp only [if_neg hr, hfresh]
      exact if_neg hlow

/-- Settles O42. -/
theorem sampleHeldOrDropped : Obligations.SampleHeldOrDropped := by
  intro s seq id uac hbetween arrived
  have hexec : exec (.sample seq id uac) s = .next (takeSampleFrame seq id uac arrived) :=
    congrArg Host.Outcome.next (arrive_between hbetween _ _)
  refine ⟨fun hdup => ?_, fun hnew hq => ?_⟩
  · rw [hexec, takeSampleFrame]
    exact congrArg Host.Outcome.next (if_pos (decide_eq_true hdup))
  · have hnext : takeSampleFrame seq id uac arrived = settle (acceptSample seq id uac arrived) :=
      if_neg (by rw [isDuplicate, decide_eq_true_iff]; exact hnew)
    rw [hnext, acceptSample_eq] at hexec
    exact completes_of hexec rfl (hq.congr rfl rfl rfl rfl)

/-- Settles O43. -/
theorem staleAndCfpHoldExpire : Obligations.StaleAndCfpHoldExpire := by
  intro s e hq hreach
  refine ⟨fun htimer => ?_, fun htimer => ?_⟩
  · have hexec : exec .staleTimerExpiry s = .next (settle (staleOnset (atTime e s))) := by
      rw [exec, execStaleTimerExpiry, htimer, onExpiry_taken hreach]
    exact completes_of hexec rfl (hq.congr rfl rfl rfl rfl)
  · have hexec : exec .cfpHoldExpiry s = .next (settle (endCfpHold (atTime e s))) := by
      rw [exec, execCfpHoldExpiry, htimer, onExpiry_taken hreach]
    exact completes_of hexec rfl (hq.congr rfl rfl rfl rfl)

/-! ### The resolver's timers -/

/-- A source with an action timer is an edge source (R98, R107). -/
theorem timed_of_actionTimer {src : Source} {p : Resolver} {e : Nat} (h : actionTimer p src = some e) :
    src = .commutationFail ∨ src = .refireLimit := by
  cases src with
  | commutationFail => exact .inl rfl
  | refireLimit => exact .inr rfl
  | _ => cases h

/-- The action of COMMUTATION_FAIL lasts at least 10 ms in a setup in range (R140). -/
theorem commutationFail_lasts (h : setupInRange s.store.setup = true) :
    actionDuration s.store.setup.guard .commutationFail ≠ some 0 := by
  simp only [setupInRange, guardInRange, Bool.and_eq_true, inRange_iff] at h
  simp only [actionDuration, msTicks, Config.ticksPerMs, ne_eq, Option.some.injEq]
  omega

/-- Settles O50. -/
theorem resolverTimersExpire : Obligations.ResolverTimersExpire := by
  intro s e hq hplaced hrange hreach
  refine ⟨fun src htimer hact => ?_, fun htimer => ?_⟩
  · have hsrc := timed_of_actionTimer htimer
    have hexec : exec (.actionTimerExpiry src) s = .next (settle (endSource src .timed (atTime e s))) := by
      rw [exec, execActionTimerExpiry, htimer, onExpiry_taken hreach]
    have htime : Quiet (atTime e s) := hq.congr rfl rfl rfl rfl
    have hquiet : Quiet (endSource src .timed (atTime e s)) := htime.endSource _ (by rintro rfl; simp at hsrc)
    have hcond : conditionHolds (atTime e s) src = false := by obtain rfl | rfl := hsrc <;> rfl
    have hpend : isPending (atTime e s) src = false := hplaced.not_pending hact
    refine ⟨_, hexec, (endSource_same src .timed (atTime e s)).trans (settle_quiet hquiet), fun hlen => ?_, fun hr => ?_, ?_⟩
    · refine settle_sends ?_
      rw [endSource_outgoing (s := atTime e s) hlen]
      exact List.prefix_rfl
    · obtain ⟨⟨hp, ha⟩, -⟩ := settle_endSource_idle .timed hpend hcond hr hquiet
      exact ⟨ha, hp⟩
    · rintro hr rfl
      have hstands : Standing .commutationFail (endSource .commutationFail .timed (atTime e s)) := by
        refine ⟨.inl ?_, ?_⟩
        · have hret : returnsPending .commutationFail (atTime e s) = true := by
            rw [returnsPending, show hasSource (atTime e s).prot.repeats .commutationFail = true from hr]
            rfl
          rw [isPending_endSource, if_pos ⟨rfl, hret⟩]
        · rw [(endSource_same _ _ _).store]
          exact commutationFail_lasts hrange
      exact ((standing_close rfl).settle hstands).1.symm
  · have hexec : exec .runWindowExpiry s = .next (settle (endRunWindow (atTime e s))) := by
      rw [exec, execRunWindowExpiry, htimer, onExpiry_taken hreach]
    have hquiet : Quiet (endRunWindow (atTime e s)) := hq.congr rfl rfl rfl rfl
    obtain ⟨-, hrun, hwindow⟩ := settle_run (endRunWindow (atTime e s))
    exact ⟨_, hexec, SameButResolver.trans (b := endRunWindow (atTime e s)) rfl (settle_quiet hquiet), hrun, hwindow⟩

/-! ### The precheck and the retard timer -/

theorem enterBlocked_quiet (u : StateCause) (v : Option Valve) (s : State) : Quiet (enterBlocked u v s) :=
  .inr (by rw [(enterBlocked_same u v s).ctl]; exact .inr (.inr (.inl rfl)))

/-- The notice of a change of which only the earlier effects have been made (R117). -/
theorem changeState_sends_from {m : State} (c : ConvState) (u : StateCause) (v : Option Valve)
    (hm : m.port.outgoing = s.port.outgoing) (hc : m.ctl.state = s.ctl.state) (hn : m.now = s.now)
    (h : s.port.outgoing.length < 32) :
    (s.port.outgoing ++ [.noticeState s.ctl.state c u v s.now]) <+: (changeState c u v m).port.outgoing := by
  rw [← hm, ← hc, ← hn]
  exact changeState_sends c u v (hm ▸ h)

theorem changeState_full_from {m : State} (c : ConvState) (u : StateCause) (v : Option Valve)
    (hm : m.port.outgoing = s.port.outgoing) (h : 32 ≤ s.port.outgoing.length) :
    Overrun s.port.outgoing (changeState c u v m).port := by
  rw [← hm]
  exact changeState_full c u v (hm ▸ h)

theorem enterBlocked_sends (u : StateCause) (v : Option Valve) (h : s.port.outgoing.length < 32) :
    (s.port.outgoing ++ [.noticeState s.ctl.state .blocked u v s.now]) <+: (enterBlocked u v s).port.outgoing := by
  simp only [enterBlocked]
  exact changeState_sends_from .blocked u v rfl rfl rfl h

theorem enterBlocked_full (u : StateCause) (v : Option Valve) (h : 32 ≤ s.port.outgoing.length) :
    Overrun s.port.outgoing (enterBlocked u v s).port := by
  simp only [enterBlocked]
  exact changeState_full_from .blocked u v rfl h

/-- The first valve not ready is the lowest-numbered one (R122). -/
theorem firstNotReady_eq {v : Valve} (h : s.ctl.ready[v] = false) (hlow : ∀ w : Valve, w < v → s.ctl.ready[w] = true) :
    firstNotReady s = some v := by
  have hsplit : ∀ v : Valve, allValves = allValves.take v.val ++ v :: allValves.drop (v.val + 1) := by decide
  have hbefore : ∀ v : Valve, ∀ w ∈ allValves.take v.val, w < v := by decide
  rw [firstNotReady, List.find?_eq_some_iff_append]
  refine ⟨by simp [h], _, _, hsplit v, fun w hw => ?_⟩
  simp [hlow w (hbefore v w hw)]

/-- Settles O51. -/
theorem precheckAndRetardExpire : Obligations.PrecheckAndRetardExpire := by
  intro s e hreach blocked ended
  have entered : ∀ (c : Instr) (u : StateCause) (v : Option Valve) (notice : OutRecord),
      exec c s = .next (settle (enterBlocked u v (atTime e s))) →
      notice = .noticeState s.ctl.state .blocked u v (max s.now e) → ended c notice := by
    rintro c u v notice hexec rfl
    refine ⟨_, hexec, (enterBlocked_same u v (atTime e s)).trans (settle_quiet (enterBlocked_quiet u v _)), fun hlen => ?_,
      fun hfull => ?_⟩
    · exact settle_sends (enterBlocked_sends (s := atTime e s) u v hlen)
    · exact (overrun_kept hfull).settle (enterBlocked_full (s := atTime e s) u v hfull)
  refine ⟨fun htimer hc => ?_, fun htimer hc => ?_⟩
  · have hexec : exec .precheckTimerExpiry s =
        .next (settle (enterBlocked .timeout (firstNotReady (atTime e s)) (atTime e s))) := by
      rw [exec, execPrecheckTimerExpiry, htimer, onExpiry_taken hreach]
      exact congrArg (fun u => Host.Outcome.next (settle u)) (if_pos hc)
    refine ⟨completes_of hexec (enterBlocked_same _ _ (atTime e s)) (enterBlocked_quiet _ _ _), fun v hv hlow => ?_⟩
    have hfirst : firstNotReady (atTime e s) = some v := firstNotReady_eq (s := atTime e s) hv hlow
    rw [hfirst] at hexec
    exact entered _ _ _ _ hexec (by rw [hc])
  · have hexec : exec .retardTimerExpiry s = .next (settle (enterBlocked .retardEnd none (atTime e s))) := by
      rw [exec, execRetardTimerExpiry, htimer, onExpiry_taken hreach]
      exact congrArg (fun u => Host.Outcome.next (settle u)) (if_pos hc)
    exact entered _ _ _ _ hexec (by rw [hc])

end Sys2Proof.Machine


/-! PROOF. RESTART (R116, R135) and REAPPEAR (R66, R67). -/

namespace Sys2Proof.Machine

variable {s t : State}

/-! ### RESTART -/

/-- The outgoing list has room for a notice of each pending source, and no notice has been lost (R166). -/
def Roomy (s : State) : Prop :=
  s.port.noticeLost = false ∧ s.port.outgoing.length + sourceCount s.prot.waiting ≤ 32

/-- With nothing in action a re-reading sends nothing (R101). -/
theorem rereadOne_of_none (h : s.prot.inAction = []) (src : Source) :
    (rereadOne src s).port = s.port ∧ (rereadOne src s).prot.inAction = [] := by
  have hnot : isInAction s src = false := by rw [isInAction, h]; rfl
  unfold rereadOne
  split
  · rw [if_neg (by simp [hnot])]
    exact ⟨rfl, h⟩
  · rw [if_neg (by simp [hnot])]
    exact ⟨rfl, h⟩

theorem rereadConditions_of_none (h : s.prot.inAction = []) :
    (rereadConditions s).port = s.port ∧ (rereadConditions s).prot.inAction = [] := by
  have step : ∀ (l : List Source) (u : State), u.prot.inAction = [] →
      (l.foldl (fun s src => rereadOne src s) u).port = u.port ∧
        (l.foldl (fun s src => rereadOne src s) u).prot.inAction = [] := by
    intro l
    induction l with
    | nil => exact fun u hu => ⟨rfl, hu⟩
    | cons a l ih =>
      intro u hu
      obtain ⟨hp, hi⟩ := rereadOne_of_none hu a
      obtain ⟨hp', hi'⟩ := ih _ hi
      exact ⟨hp'.trans hp, hi'⟩
  exact step _ s h

/-- A condition source granted where no stop demand moves the converter is only moved (R102, R127). -/
theorem grantOne_of_unmoved {src : Source} (h : Unmoved s.ctl.state) (he : isEdgeSource src = false) :
    grantOne src s = moveToAction src s := by
  have hstop : stopDemand src (moveToAction src s) = moveToAction src s :=
    stopDemand_of_unmoved src (by rw [moveToAction_ctl]; exact h)
  cases src with
  | valveTrip => cases he
  | commutationFail => cases he
  | refireLimit => cases he
  | phaseLost => exact hstop
  | linkLost => exact hstop
  | _ => rfl

/-- The grant of a condition source uses the room of one notice (R102, R166). -/
theorem Roomy.granted {src : Source} (h : Roomy s) (hp : isPending s src = true) : Roomy (moveToAction src s) := by
  obtain ⟨hlost, hroom⟩ := h
  have hcount := sourceCount_take hp
  have hsent : (moveToAction src s).port = (appendRecord (.noticeGrant src (sourceAction src) s.now) s).port := by
    unfold moveToAction notify Config.outgoingCapacity
    rw [if_pos (by change s.port.outgoing.length < 32; omega)]
    rfl
  refine ⟨by rw [hsent]; exact hlost, ?_⟩
  rw [moveToAction_prot, hsent]
  simp only [appendRecord, List.length_append, List.length_singleton]
  omega

/-- Grants that find no edge source and no converter to stop lose no notice (R166). -/
theorem grantLoop_roomy (n : Nat) (s : State) (hu : Unmoved s.ctl.state)
    (hedge : ∀ b, isEdgeSource b = true → isPending s b = false) (h : Roomy s) :
    (grantLoop n s).port.noticeLost = false := by
  induction n generalizing s with
  | zero => exact h.1
  | succ n ih =>
    unfold grantLoop
    split
    · rename_i src hg
      have hp := nextGrant_pending hg
      have he : isEdgeSource src = false := by
        rw [← Bool.not_eq_true]
        exact fun he => Bool.false_ne_true ((hedge src he).symm.trans hp)
      rw [grantOne_of_unmoved hu he]
      refine ih _ (by rw [moveToAction_ctl]; exact hu) (fun b hb => ?_) (h.granted hp)
      rw [isPending_moveToAction]
      split
      · rfl
      · exact hedge b hb
    · exact h.1

/-- Settles O4: the refusal away from rest; at rest the reset whole, whose grants find an empty resolver and an all but empty
list. -/
theorem restartResetsAtRest : Obligations.RestartResetsAtRest := by
  intro s tag h
  refine ⟨fun hrest hq => ?_, fun hrest => ?_⟩
  · have hrest' : ¬isAtRest (abandoned (popped s)).ctl.state = true := by
      rw [show isAtRest (abandoned (popped s)).ctl.state = false from hrest]
      exact Bool.false_ne_true
    exact completesReplying_plain h rfl hq (if_neg hrest')
  · have hexec := exec_plain h rfl
    have hbody : takeRequest tag .restart (abandoned (popped s)) =
        restartPart (accept .restart tag (abandoned (popped s))) := if_pos hrest
    rw [hbody] at hexec
    have hunmoved : Unmoved (restartPart (accept .restart tag (abandoned (popped s)))).ctl.state :=
      unmoved_of_isAtRest hrest
    have hidle : ∀ b, Idle b (restartPart (accept .restart tag (abandoned (popped s)))) := by
      intro b
      cases b <;> exact ⟨rfl, rfl⟩
    have hreleased : Released (restartPart (accept .restart tag (abandoned (popped s)))) := ⟨hidle _, rfl⟩
    obtain ⟨hmasks, hrun, hwindow⟩ := settle_run (restartPart (accept .restart tag (abandoned (popped s))))
    refine ⟨_, hexec, SameButResolver.trans ?_ (settle_quiet (.inr hunmoved)), settle_sends ?_, hreleased.settle.2, hmasks, hrun,
      hwindow, ?_⟩
    · rfl
    · exact List.prefix_rfl
    · obtain ⟨hport, -⟩ := rereadConditions_of_none (s := restartPart (accept .restart tag (abandoned (popped s)))) rfl
      have hedge : ∀ b, isEdgeSource b = true →
          isPending (rereadConditions (restartPart (accept .restart tag (abandoned (popped s))))) b = false :=
        fun b hb => ((idle_close hb).rereadConditions (hidle b)).1
      refine grantLoop_roomy 32 _ (by rw [rereadConditions_ctl]; exact hunmoved) hedge ⟨by rw [hport]; rfl, ?_⟩
      have hcount := sourceCount_le (rereadConditions (restartPart (accept .restart tag (abandoned (popped s))))).prot.waiting
      have hlen : (restartPart (accept .restart tag (abandoned (popped s)))).port.outgoing.length =
          s.port.outgoing.length + 1 := List.length_append
      have h16 := h.2
      rw [hport, hlen]
      omega

/-! ### REAPPEAR -/

theorem Quiet.raiseEdge {src : Source} (h : Quiet s) (hsrc : src ≠ .valveTrip) (he : isEdgeSource src = true) :
    Quiet (raiseEdge src s) := by
  obtain ⟨h1, h2, h3, hphase, hlink⟩ | hu := h
  · have stays : ∀ b, b ≠ src → isPending (Machine.raiseEdge src s) b = isPending s b := by
      intro b hb
      unfold Machine.raiseEdge
      split
      · rfl
      · simp [hb.symm]
    have hsame := raiseEdge_same src s
    refine .inl ⟨?_, ?_, ?_, ?_, ?_⟩
    · rw [stays _ hsrc.symm]; exact h1
    · rw [stays _ (by rintro rfl; cases he)]; exact h2
    · rw [stays _ (by rintro rfl; cases he)]; exact h3
    · rw [hsame.conditionHolds]; exact hphase
    · rw [hsame.conditionHolds]; exact hlink
  · exact .inr (by rw [(raiseEdge_same src s).ctl]; exact hu)

/-- A masked source that is pending stays so through the close of an event (R102, R111). -/
def HeldPending (b : Source) (s : State) : Prop := isPending s b = true ∧ hasSource s.prot.masks b = true

theorem HeldPending.ne_of_granted {a b : Source} (h : HeldPending b s) (hg : nextGrant s = some a) : a ≠ b := by
  rintro rfl
  exact Bool.false_ne_true ((nextGrant_spec hg).2.1.symm.trans h.2)

theorem HeldPending.moved {a b : Source} (h : HeldPending b s) (hg : nextGrant s = some a) :
    HeldPending b (moveToAction a s) :=
  ⟨by simp [h.ne_of_granted hg, h.1], by rw [moveToAction_prot]; exact h.2⟩

theorem HeldPending.timed {a b : Source} (h : HeldPending b s) (hg : nextGrant s = some a) (x : Option Nat) :
    HeldPending b { moveToAction a s with prot := setActionTimer a x (moveToAction a s).prot } := by
  obtain ⟨hp, hm⟩ := h.moved hg
  refine ⟨?_, ?_⟩
  · rw [isPending_congr (s := moveToAction a s) (setActionTimer_waiting a x _)]
    exact hp
  · cases a <;> exact hm

theorem HeldPending.ended {a b : Source} (h : HeldPending b s) (c : EndCause) : HeldPending b (endSource a c s) := by
  refine ⟨?_, by rw [endSource_masks]; exact h.2⟩
  rw [isPending_endSource]
  split
  · rfl
  · exact h.1

theorem heldPending_close {b : Source} (hb : isEdgeSource b = true) : CloseKept (HeldPending b) where
  frame hp _ h := ⟨by rw [isPending_congr (congrArg _ hp)]; exact h.1, by rw [hp]; exact h.2⟩
  becomesPending src s _ _ h := ⟨by simp [h.1], h.2⟩
  withdrawn src s he h := by
    have hne : src ≠ b := by rintro rfl; rw [he] at hb; cases hb
    exact ⟨by simp [hne, h.1], h.2⟩
  cleared src s _ _ h := h.ended _
  moved src s hg _ h := h.moved hg
  tripped s hg h := ⟨(h.moved hg).1, (h.moved hg).2⟩
  timed src s x hg _ h := h.timed hg x
  timedOut src s x hg _ h := (h.timed hg x).ended _

/-- A source that is not pending keeps its repeat mark through the close of an event (R100, R109). -/
def Repeating (b : Source) (s : State) : Prop := isPending s b = false ∧ hasSource s.prot.repeats b = true

theorem Repeating.ne_of_granted {a b : Source} (h : Repeating b s) (hg : nextGrant s = some a) : a ≠ b := by
  rintro rfl
  exact Bool.false_ne_true (h.1.symm.trans (nextGrant_pending hg))

theorem Repeating.moved {a b : Source} (h : Repeating b s) (hg : nextGrant s = some a) : Repeating b (moveToAction a s) :=
  ⟨by simp [h.ne_of_granted hg, h.1], by rw [moveToAction_prot]; exact h.2⟩

theorem Repeating.timed {a b : Source} (h : Repeating b s) (hg : nextGrant s = some a) (x : Option Nat) :
    Repeating b { moveToAction a s with prot := setActionTimer a x (moveToAction a s).prot } := by
  obtain ⟨hp, hr⟩ := h.moved hg
  refine ⟨?_, ?_⟩
  · rw [isPending_congr (s := moveToAction a s) (setActionTimer_waiting a x _)]
    exact hp
  · rw [setActionTimer_repeats]
    exact hr

theorem Repeating.ended {a b : Source} (h : Repeating b s) (hab : a ≠ b) (c : EndCause) :
    Repeating b (endSource a c s) := by
  refine ⟨by simp [hab, h.1], ?_⟩
  rw [endSource_prot]
  dsimp only
  split
  · rw [hasSource_putSource, if_neg hab]
    exact h.2
  · exact h.2

theorem repeating_close {b : Source} (hb : isEdgeSource b = true) : CloseKept (Repeating b) where
  frame hp _ h := ⟨by rw [isPending_congr (congrArg _ hp)]; exact h.1, by rw [hp]; exact h.2⟩
  becomesPending src s he _ h := by
    have hne : src ≠ b := by rintro rfl; rw [he] at hb; cases hb
    exact ⟨by simp [hne, h.1], h.2⟩
  withdrawn src s _ h := ⟨by simp [h.1], h.2⟩
  cleared src s hk _ h := h.ended (by rintro rfl; rw [isClearedSource_not_edge hk] at hb; cases hb) _
  moved src s hg _ h := h.moved hg
  tripped s hg h := ⟨(h.moved hg).1, (h.moved hg).2⟩
  timed src s x hg _ h := h.timed hg x
  timedOut src s x hg _ h := (h.timed hg x).ended (h.ne_of_granted hg) _

end Sys2Proof.Machine


/-! PROOF. REAPPEAR (R66, R67, R100, R107). -/

namespace Sys2Proof.Machine

variable {s t : State}

/-! ### A grant with nothing in action -/

theorem nextGrant_none_of_masked (h : ∀ src, isPending s src = true → hasSource s.prot.masks src = true) :
    nextGrant s = none := by
  have hf : highestPending s = none := by
    refine List.find?_eq_none.mpr fun src _ => ?_
    cases hp : isPending s src with
    | false => simp
    | true => simp [h src hp]
  rw [nextGrant, hf]

/-- With nothing in action every pending source of a state without a grant is masked (R102). -/
theorem masked_of_pending (hg : nextGrant s = none) (hi : s.prot.inAction = []) {src : Source}
    (hp : isPending s src = true) : hasSource s.prot.masks src = true := by
  have hf : highestPending s = none := by
    cases hx : highestPending s with
    | none => rfl
    | some x =>
      have hout : outranksAction s x = true := by rw [outranksAction, hi]; rfl
      unfold nextGrant at hg
      rw [hx] at hg
      cases hn : s.store.setup.nesting <;> simp [hn, hout] at hg
  have hnot := List.find?_eq_none.mp hf src (by cases src <;> decide)
  simpa [hp] using hnot

/-- With nothing in action the highest pending source that is not masked is granted (R102). -/
theorem nextGrant_of_highest {src : Source} (hi : s.prot.inAction = []) (hp : isPending s src = true)
    (hm : hasSource s.prot.masks src = false)
    (hhigh : ∀ b, sourceNumber b < sourceNumber src → isPending s b = true → hasSource s.prot.masks b = true) :
    nextGrant s = some src := by
  have hsplit : allSources = allSources.take (sourceNumber src) ++ src :: allSources.drop (sourceNumber src + 1) := by
    cases src <;> rfl
  have hf : highestPending s = some src := by
    rw [highestPending, List.find?_eq_some_iff_append]
    refine ⟨by simp [hp, hm], _, _, hsplit, fun b hb => ?_⟩
    have hlt := sourceNumber_lt_of_mem_take src b hb
    cases hpb : isPending s b with
    | false => simp
    | true => simp [hhigh b hlt hpb]
  have hout : outranksAction s src = true := by rw [outranksAction, hi]; rfl
  unfold nextGrant
  rw [hf]
  cases hn : s.store.setup.nesting <;> simp [hout]

theorem moveToAction_outgoing {src : Source} (h : s.port.outgoing.length < 32) :
    (moveToAction src s).port.outgoing = s.port.outgoing ++ [.noticeGrant src (sourceAction src) s.now] := by
  unfold moveToAction
  rw [notify_outgoing]
  exact if_pos h

/-- The edge of a masked source that is not in action leaves it pending (R100, R102). -/
theorem settle_raise_masked {b : Source} (hb : isEdgeSource b = true) (ha : isInAction s b = false)
    (hm : hasSource s.prot.masks b = true) : isPending (settle (raiseEdge b s)) b = true := by
  have hraise : raiseEdge b s = makePending b s := if_neg (by simp [ha])
  have hheld : HeldPending b (makePending b s) := ⟨by simp, hm⟩
  rw [hraise]
  exact ((heldPending_close hb).settle hheld).1

/-- The edge of a source in action sets its repeat mark (R100). -/
theorem settle_raise_repeats {b : Source} (hb : isEdgeSource b = true) (ha : isInAction s b = true)
    (hp : isPending s b = false) : hasSource (settle (raiseEdge b s)).prot.repeats b = true := by
  have hraise : raiseEdge b s = { s with prot := { s.prot with repeats := putSource s.prot.repeats b true } } := if_pos ha
  have hrepeating : Repeating b { s with prot := { s.prot with repeats := putSource s.prot.repeats b true } } :=
    ⟨hp, by simp⟩
  rw [hraise]
  exact ((repeating_close hb).settle hrepeating).2

/-! ### REFIRE_LIMIT with nothing in action -/

/-- REFIRE_LIMIT's action has no length: its grant ends it (R98, R107). -/
def refireEnded (s : State) : State :=
  endSource .refireLimit .timed { moveToAction .refireLimit s with
    prot := setActionTimer .refireLimit (some s.now) (moveToAction .refireLimit s).prot }

theorem grantOne_refireLimit (s : State) : grantOne .refireLimit s = refireEnded s := by
  unfold refireEnded
  rw [← moveToAction_now s .refireLimit]
  rfl

theorem isPending_refireEnded (hr : hasSource s.prot.repeats .refireLimit = false) (src : Source) :
    isPending (refireEnded s) src = if Source.refireLimit = src then false else isPending s src := by
  have hret : returnsPending .refireLimit { moveToAction .refireLimit s with
      prot := setActionTimer .refireLimit (some s.now) (moveToAction .refireLimit s).prot } = false := by
    refine returnsPending_eq_false rfl ?_
    change hasSource (moveToAction .refireLimit s).prot.repeats .refireLimit = false
    rw [moveToAction_prot]
    exact hr
  rw [refireEnded, isPending_endSource, hret, if_neg (by simp)]
  exact isPending_moveToAction .refireLimit src s

theorem isInAction_refireEnded (hi : s.prot.inAction = []) (src : Source) : isInAction (refireEnded s) src = false := by
  have hmoved : isInAction { moveToAction .refireLimit s with
      prot := setActionTimer .refireLimit (some s.now) (moveToAction .refireLimit s).prot } src =
      (isInAction s src || decide (Source.refireLimit = src)) := isInAction_moveToAction .refireLimit src s
  have hnone : isInAction s src = false := by rw [isInAction, hi]; rfl
  rw [refireEnded, isInAction_endSource, hmoved, hnone]
  by_cases hsrc : Source.refireLimit = src
  · simp [hsrc]
  · simp [hsrc]

theorem refireEnded_masks (s : State) : (refireEnded s).prot.masks = s.prot.masks := by
  rw [refireEnded, endSource_masks]
  change (moveToAction .refireLimit s).prot.masks = s.prot.masks
  rw [moveToAction_prot]

theorem refireEnded_outgoing (h : s.port.outgoing.length ≤ 30) : (refireEnded s).port.outgoing =
    s.port.outgoing ++ [.noticeGrant .refireLimit .alarm s.now, .noticeEnd .refireLimit .timed s.now] := by
  have hmoved := moveToAction_outgoing (s := s) (src := .refireLimit) (by omega)
  have hlen : ({ moveToAction .refireLimit s with
      prot := setActionTimer .refireLimit (some s.now) (moveToAction .refireLimit s).prot } : State).port.outgoing.length <
      32 := by
    change (moveToAction .refireLimit s).port.outgoing.length < 32
    rw [hmoved, List.length_append, List.length_singleton]
    omega
  rw [refireEnded, endSource_outgoing hlen]
  change (moveToAction .refireLimit s).port.outgoing ++ [.noticeEnd .refireLimit .timed (moveToAction .refireLimit s).now] = _
  rw [hmoved, List.append_assoc, moveToAction_now]
  rfl

/-- The edge of REFIRE_LIMIT in a settled resolver with nothing in action: granted and ended in the same event (R66, R107). -/
theorem settle_raise_refireLimit (h : Settled s) (hi : s.prot.inAction = [])
    (hm : hasSource s.prot.masks .refireLimit = false) (hr : hasSource s.prot.repeats .refireLimit = false) :
    settle (raiseEdge .refireLimit s) = refireEnded (makePending .refireLimit s) := by
  have hnot : isInAction s .refireLimit = false := by rw [isInAction, hi]; rfl
  have hraise : raiseEdge .refireLimit s = makePending .refireLimit s := if_neg (by simp [hnot])
  have hstep : rereadConditions (makePending .refireLimit s) = makePending .refireLimit s := by
    refine rereadConditions_of_inStep _ fun src he => ?_
    have hne : Source.refireLimit ≠ src := by rintro rfl; cases he
    have hsame : SameButResolver s (makePending .refireLimit s) := rfl
    rw [hsame.conditionHolds, isPending_makePending, if_neg hne]
    exact h.1 src he
  have hgrant : nextGrant (makePending .refireLimit s) = some .refireLimit := by
    refine nextGrant_of_highest hi (by simp) hm fun b hb hp => ?_
    have hne : Source.refireLimit ≠ b := by rintro rfl; exact Nat.lt_irrefl _ hb
    rw [isPending_makePending, if_neg hne] at hp
    exact masked_of_pending h.2 hi hp
  have hend : nextGrant (refireEnded (makePending .refireLimit s)) = none := by
    refine nextGrant_none_of_masked fun src hp => ?_
    rw [isPending_refireEnded (s := makePending .refireLimit s) hr, isPending_makePending] at hp
    rw [refireEnded_masks]
    split at hp
    · cases hp
    · exact masked_of_pending h.2 hi hp
  rw [hraise, settle, hstep, grantLoop, hgrant]
  dsimp only
  rw [grantOne_refireLimit, grantLoop, hend]

/-- What that edge leaves: REFIRE_LIMIT IDLE again, and its two notices sent (R107, R113). -/
theorem settle_raise_refireLimit_ended (h : Settled s) (hi : s.prot.inAction = [])
    (hm : hasSource s.prot.masks .refireLimit = false) (hr : hasSource s.prot.repeats .refireLimit = false) :
    isInAction (settle (raiseEdge .refireLimit s)) .refireLimit = false ∧
      isPending (settle (raiseEdge .refireLimit s)) .refireLimit = false ∧
      (s.port.outgoing.length ≤ 30 → (settle (raiseEdge .refireLimit s)).port.outgoing = s.port.outgoing ++
        [.noticeGrant .refireLimit .alarm s.now, .noticeEnd .refireLimit .timed s.now]) := by
  rw [settle_raise_refireLimit h hi hm hr]
  refine ⟨isInAction_refireEnded (s := makePending .refireLimit s) hi _, ?_,
    fun hlen => refireEnded_outgoing (s := makePending .refireLimit s) hlen⟩
  rw [isPending_refireEnded (s := makePending .refireLimit s) hr]
  rfl

/-! ### Refires -/

/-- What a REAPPEAR makes of its line: the generator refired, the main pulse without code (R66, R67). -/
def refiredState (line : Valve) (s : State) : State :=
  emitPulse line ⟨.main, s.now, none⟩ (setGenerator line (refireAt s.store.setup.angles s.now s.gens[line]) s)

/-- A REAPPEAR of its own valve in TRAIN or HOLD: the refire, with its edge at refire_limit (R66, R67). -/
theorem exec_reappear {line : Valve} {valve : Nat} (hbetween : betweenFrames (.ret line) s = true)
    (hv : valve = valveNumber line) (hm : s.gens[line].mode ≠ .off) :
    exec (.reappear line valve) s =
      .next (settle (if refireReachesLimit s.store.setup.angles s.gens[line] = true then
        raiseEdge .refireLimit (refiredState line (frameEnded (.ret line) s))
      else refiredState line (frameEnded (.ret line) s))) := by
  have hexec : exec (.reappear line valve) s = .next (takeReappearFrame line valve (frameEnded (.ret line) s)) :=
    congrArg Host.Outcome.next (arrive_between hbetween _ _)
  have htake : takeReappearFrame line valve (frameEnded (.ret line) s) =
      settle (refireValve line (frameEnded (.ret line) s)) := if_pos ⟨hv, hm⟩
  rw [hexec, htake]
  rfl

theorem refireReachesLimit_iff {v : AngleValues} {g : Generator} :
    refireReachesLimit v g = true ↔ g.mode = .train ∧ g.refires + 1 = v.refireLimit := by
  rw [refireReachesLimit, Bool.and_eq_true, Bool.and_eq_true, decide_eq_true_iff, decide_eq_true_iff, decide_eq_true_iff]
  constructor
  · rintro ⟨⟨hm, -⟩, hlim⟩
    exact ⟨hm, hlim⟩
  · rintro ⟨hm, hlim⟩
    exact ⟨⟨hm, by omega⟩, hlim⟩

theorem refireAt_train {v : AngleValues} {now e : Nat} {g : Generator} (hm : g.mode = .train) (he : g.trainEnd = some e) :
    refireAt v now g = ⟨.train, some e, if now + v.repeatTicks < e then some (now + v.repeatTicks) else none,
      if g.refires < v.refireLimit then g.refires + 1 else g.refires,
      some (max (g.litUntil.getD 0) (now + 100))⟩ := by
  rw [refireAt, rearmRepeat_train _ _ _ _ hm he, hm, he]
  simp only [true_and]
  rfl

theorem refireAt_hold {v : AngleValues} {now : Nat} {g : Generator} (hm : g.mode = .hold) :
    refireAt v now g = ⟨.hold, g.trainEnd, some (now + v.repeatTicks), g.refires,
      some (max (g.litUntil.getD 0) (now + 100))⟩ := by
  rw [refireAt, rearmRepeat_hold _ _ _ hm, hm]
  rfl

/-- Settles O46: the frame that brings no refire, then the refire with its edge. -/
theorem reappearRefires : Obligations.ReappearRefires := by
  intro s line valve hbetween g v lit atLimit refired
  refine ⟨fun hno => ?_, fun hv hq => ?_⟩
  · have hexec : exec (.reappear line valve) s = .next (takeReappearFrame line valve (frameEnded (.ret line) s)) :=
      congrArg Host.Outcome.next (arrive_between hbetween _ _)
    rw [hexec]
    refine congrArg Host.Outcome.next (if_neg ?_)
    rintro ⟨h1, h2⟩
    exact hno.elim (fun h => h h1) (fun h => h2 h)
  · have hquiet : Quiet (refiredState line (frameEnded (.ret line) s)) := hq.congr rfl rfl rfl rfl
    have key : ∀ h : Generator, g.mode ≠ .off → refireAt v s.now g = h → refired h := by
      rintro h hm rfl
      have hexec := exec_reappear hbetween hv hm
      have hsettled : Settled s → Settled (refiredState line (frameEnded (.ret line) s)) :=
        fun hset => hset.congr rfl rfl rfl rfl rfl rfl rfl rfl
      by_cases hlim : refireReachesLimit v g = true
      · rw [if_pos hlim] at hexec
        have hat := refireReachesLimit_iff.mp hlim
        refine ⟨_, hexec, ?_, fun hnot => absurd hat hnot, fun _ => ⟨fun hact hmask => ?_, fun hact hpend => ?_,
          fun hset hi hmask hrep => ?_⟩⟩
        · exact (raiseEdge_same .refireLimit (refiredState line (frameEnded (.ret line) s))).trans
            (settle_quiet (hquiet.raiseEdge (by decide) rfl))
        · exact settle_raise_masked (s := refiredState line (frameEnded (.ret line) s)) rfl hact hmask
        · exact settle_raise_repeats (s := refiredState line (frameEnded (.ret line) s)) rfl hact hpend
        · exact settle_raise_refireLimit_ended (hsettled hset) hi hmask hrep
      · rw [if_neg hlim] at hexec
        refine ⟨_, hexec, SameButResolver.trans ?_ (settle_quiet hquiet), fun _ hset => ?_, fun hat => ?_⟩
        · rfl
        · rw [settle_of_settled _ (hsettled hset)]
          exact ⟨rfl, rfl⟩
        · exact absurd (refireReachesLimit_iff.mpr hat) hlim
    refine ⟨fun e hm he => key _ (by rw [hm]; decide) (refireAt_train hm he), fun hm => key _ (by rw [hm]; decide) (refireAt_hold hm)⟩

end Sys2Proof.Machine


/-! PROOF. What a firing does to its valve, and the entry to BYPASS (R48, R49, R55, R62, R68, R77, R126). -/

namespace Sys2Proof.Machine

variable {s t : State}

/-! ### A firing, field by field -/

/-- The generator of a fired valve (R63, R68). -/
def firedGenerator (o : Order) (s : State) : Generator :=
  if o.kind = .bypass then startHold s.store.setup.angles s.now s.gens[o.valve]
  else startTrain s.store.setup.angles s.pru.p s.now s.gens[o.valve]

/-- The emitter line of a fired valve: its main pulse carries the new window number (R62, R77). -/
def firedEmitter (o : Order) (s : State) : Emitter :=
  ⟨s.emitters[o.valve].probeUntil, some ⟨.main, s.now, some (advanceWindow s.monitors[o.valve]).window⟩⟩

theorem countTest_lastY (o : Order) (s : State) : (countTest o s).ctl.lastY = s.ctl.lastY := by
  unfold countTest; dsimp only; split
  · split <;> rfl
  · rfl

theorem countTest_lastD (o : Order) (s : State) : (countTest o s).ctl.lastD = s.ctl.lastD := by
  unfold countTest; dsimp only; split
  · split <;> rfl
  · rfl

theorem fireOrder_gens (o : Order) (s : State) : (fireOrder o s).gens = s.gens.set o.valve (firedGenerator o s) := by
  simp only [fireOrder, countTest_gens, markFired_gens]
  rfl

theorem fireOrder_emitters (o : Order) (s : State) :
    (fireOrder o s).emitters = s.emitters.set o.valve (firedEmitter o s) := by
  simp only [fireOrder, countTest_emitters, markFired_emitters]
  simp [pulseFiring, emitPulse, firedEmitter, windowFiring, setMonitor, countFiring, setGenerator]

/-- The marks after a firing: the fired valve's bridge names it (R126). -/
theorem fireOrder_lastY (o : Order) (s : State) :
    (fireOrder o s).ctl.lastY = if isY o.valve = true then some o.valve else s.ctl.lastY := by
  simp only [fireOrder, countTest_lastY, markFired]
  split <;> rfl

theorem fireOrder_lastD (o : Order) (s : State) :
    (fireOrder o s).ctl.lastD = if isY o.valve = true then s.ctl.lastD else some o.valve := by
  simp only [fireOrder, countTest_lastD, markFired]
  split <;> rfl

/-! ### BYPASS orders one after the other -/

/-- A BYPASS order fired at the present station time (R48). -/
def fireBypass (s : State) (v : Valve) : State := fireOrder (bypassOrder s.now v) s

/-- A valve that is not among those fired keeps what stands of it; a valve fired once is fired from what stood (R48). -/
theorem foldl_fireBypass (l : List Valve) (hl : l.Nodup) (s : State) (v : Valve) :
    (v ∉ l → (l.foldl fireBypass s).gens[v] = s.gens[v] ∧ (l.foldl fireBypass s).emitters[v] = s.emitters[v] ∧
      (l.foldl fireBypass s).monitors[v] = s.monitors[v]) ∧
    (v ∈ l → (l.foldl fireBypass s).gens[v] = firedGenerator (bypassOrder s.now v) s ∧
      (l.foldl fireBypass s).emitters[v] = firedEmitter (bypassOrder s.now v) s ∧
      (l.foldl fireBypass s).monitors[v] = advanceWindow s.monitors[v]) := by
  induction l generalizing s with
  | nil => exact ⟨fun _ => ⟨rfl, rfl, rfl⟩, nofun⟩
  | cons a l ih =>
    obtain ⟨ha, hl⟩ := List.nodup_cons.mp hl
    obtain ⟨hout, hin⟩ := ih hl (fireBypass s a)
    have other : v ≠ a → (fireBypass s a).gens[v] = s.gens[v] ∧ (fireBypass s a).emitters[v] = s.emitters[v] ∧
        (fireBypass s a).monitors[v] = s.monitors[v] := by
      intro hne
      have hval : a.val ≠ v.val := fun h => hne (Fin.ext h.symm)
      simp [fireBypass, fireOrder_gens, fireOrder_emitters, fireOrder_monitors, bypassOrder, hval]
    have same : v = a → (fireBypass s a).gens[v] = firedGenerator (bypassOrder s.now v) s ∧
        (fireBypass s a).emitters[v] = firedEmitter (bypassOrder s.now v) s ∧
        (fireBypass s a).monitors[v] = advanceWindow s.monitors[v] := by
      rintro rfl
      simp [fireBypass, fireOrder_gens, fireOrder_emitters, fireOrder_monitors, bypassOrder]
    refine ⟨fun hnot => ?_, fun hmem => ?_⟩
    · rw [List.mem_cons, not_or] at hnot
      obtain ⟨hne, hnl⟩ := hnot
      obtain ⟨h1, h2, h3⟩ := hout hnl
      obtain ⟨g1, g2, g3⟩ := other hne
      exact ⟨h1.trans g1, h2.trans g2, h3.trans g3⟩
    · by_cases hva : v = a
      · obtain ⟨h1, h2, h3⟩ := hout (hva ▸ ha)
        obtain ⟨g1, g2, g3⟩ := same hva
        exact ⟨h1.trans g1, h2.trans g2, h3.trans g3⟩
      · obtain ⟨h1, h2, h3⟩ := hin (List.mem_of_ne_of_mem hva hmem)
        obtain ⟨g1, g2, g3⟩ := other hva
        have hnow : (fireBypass s a).now = s.now := fireOrder_now _ _
        refine ⟨h1.trans ?_, h2.trans ?_, h3.trans (congrArg _ g3)⟩
        · simp only [firedGenerator, bypassOrder, if_true, hnow, g1]
          simp [fireBypass]
        · simp only [firedEmitter, bypassOrder, hnow, g2, g3]

/-- One more record of a ring of 64 (R56). -/
theorem pushRing_take (r : FiringRecord) (l : List FiringRecord) : pushRing r (l.take 64) = (r :: l).take 64 := by
  rw [pushRing, Config.ringCapacity, List.take_succ_cons, List.take_succ_cons, List.take_take]
  rfl

/-- The count and the ring after four BYPASS firings (R55, R56). -/
theorem foldl_fireBypass_ring (a b c d : Valve) (s : State) :
    let record := fun (n : Nat) (v : Valve) => firingRecord (s.cal.fired + n) s.now (bypassOrder s.now v)
    ([a, b, c, d].foldl fireBypass s).cal.ring =
      ([record 4 d, record 3 c, record 2 b, record 1 a] ++ s.cal.ring).take 64 := by
  intro record
  simp only [List.foldl_cons, List.foldl_nil, fireBypass, fireOrder_cal, fireOrder_now, List.cons_append, List.nil_append]
  rw [show pushRing (firingRecord (s.cal.fired + 1) s.now (bypassOrder s.now a)) s.cal.ring =
    (record 1 a :: s.cal.ring).take 64 from rfl, pushRing_take, pushRing_take, pushRing_take]

/-! ### The legs -/

/-- The chosen legs lie in their bridges, their four valves distinct (R126). -/
theorem pairs_distinct (y d : Option Valve) :
    [(pairY y).1, (pairY y).2, (pairD d).1, (pairD d).2].Nodup ∧
      isY (pairY y).1 = true ∧ isY (pairY y).2 = true ∧ isY (pairD d).1 = false ∧ isY (pairD d).2 = false := by
  have hy : ∀ y : Option Valve, isY (pairY y).1 = true ∧ isY (pairY y).2 = true ∧ (pairY y).1 ≠ (pairY y).2 := by decide
  have hd : ∀ d : Option Valve, isY (pairD d).1 = false ∧ isY (pairD d).2 = false ∧ (pairD d).1 ≠ (pairD d).2 := by decide
  obtain ⟨hy1, hy2, hy⟩ := hy y
  obtain ⟨hd1, hd2, hd⟩ := hd d
  have cross : ∀ v w : Valve, isY v = true → isY w = false → v ≠ w := by
    rintro v w hv hw rfl
    exact Bool.false_ne_true (hw.symm.trans hv)
  refine ⟨?_, hy1, hy2, hd1, hd2⟩
  simp only [List.nodup_cons, List.mem_cons, List.not_mem_nil, or_false, not_or, not_false_eq_true, List.nodup_nil, and_true]
  exact ⟨⟨hy, cross _ _ hy1 hd1, cross _ _ hy1 hd2⟩, ⟨cross _ _ hy2 hd1, cross _ _ hy2 hd2⟩, hd⟩

/-- The leg of each mark, or the first (R126). -/
theorem legs_of_marks (y d : Option Valve) :
    let legY := (valveNumber (pairY y).1, valveNumber (pairY y).2)
    let legD := (valveNumber (pairD d).1, valveNumber (pairD d).2)
    ((y = none ∨ y = some 0 ∨ y = some 3) → legY = (1, 4)) ∧ ((y = some 2 ∨ y = some 5) → legY = (3, 6)) ∧
      ((y = some 1 ∨ y = some 4) → legY = (2, 5)) ∧
      ((d = none ∨ d = some 6 ∨ d = some 9) → legD = (7, 10)) ∧ ((d = some 8 ∨ d = some 11) → legD = (9, 12)) ∧
      ((d = some 7 ∨ d = some 10) → legD = (8, 11)) := by
  intro legY legD
  refine ⟨?_, ?_, ?_, ?_, ?_, ?_⟩
  · rintro (rfl | rfl | rfl) <;> rfl
  · rintro (rfl | rfl) <;> rfl
  · rintro (rfl | rfl) <;> rfl
  · rintro (rfl | rfl | rfl) <;> rfl
  · rintro (rfl | rfl) <;> rfl
  · rintro (rfl | rfl) <;> rfl

/-! ### The entry to BYPASS -/

/-- The window of a fired valve, and what its close leaves (R77, R78). -/
theorem advanceWindow_eq (m : ValveMonitor) :
    advanceWindow m =
      if m.window = 0 ∨ m.accepted = true then
        { m with window := if m.window = 65535 then 1 else m.window + 1, accepted := false }
      else { m with
        window := if m.window = 65535 then 1 else m.window + 1
        accepted := false
        missingRun := min 3 (m.missingRun + 1)
        lost := m.lost || decide (2 ≤ m.missingRun) } := by
  have hlost : decide (min 3 (m.missingRun + 1) = 3) = decide (2 ≤ m.missingRun) := decide_eq_decide.mpr (by omega)
  unfold advanceWindow closeWindow
  split
  · rfl
  · rw [← hlost]
    rfl

theorem advanceWindow_window (m : ValveMonitor) :
    (advanceWindow m).window = if m.window = 65535 then 1 else m.window + 1 := by
  rw [advanceWindow_eq]
  split <;> rfl

/-- The state in which the four BYPASS orders are fired (R48). -/
def bypassPrepared (s : State) : State :=
  let u := discardNormal (generatorsOffExcept
    [(pairY s.ctl.lastY).1, (pairY s.ctl.lastY).2, (pairD s.ctl.lastD).1, (pairD s.ctl.lastD).2] s)
  { u with cal := { u.cal with created := u.cal.created + 4 } }

theorem bypassPrepared_emitters (s : State) : (bypassPrepared s).emitters = s.emitters := rfl

theorem bypassPrepared_monitors (s : State) : (bypassPrepared s).monitors = s.monitors := rfl

theorem bypassFired_eq (s : State) : bypassFired s =
    [(pairY s.ctl.lastY).1, (pairY s.ctl.lastY).2, (pairD s.ctl.lastD).1, (pairD s.ctl.lastD).2].foldl fireBypass
      (bypassPrepared s) := rfl

/-- What the entry to BYPASS makes of each valve (R69, R68, R77). -/
theorem bypassFired_valve (s : State) (v : Valve) :
    if v = (pairY s.ctl.lastY).1 ∨ v = (pairY s.ctl.lastY).2 ∨ v = (pairD s.ctl.lastD).1 ∨ v = (pairD s.ctl.lastD).2
    then
      (bypassFired s).gens[v] = ⟨.hold, none, some (s.now + s.store.setup.angles.repeatTicks), 0,
        some (max (s.gens[v].litUntil.getD 0) (s.now + 100))⟩ ∧
      (bypassFired s).emitters[v] = ⟨s.emitters[v].probeUntil,
        some ⟨.main, s.now, some (if s.monitors[v].window = 65535 then 1 else s.monitors[v].window + 1)⟩⟩ ∧
      (bypassFired s).monitors[v] = advanceWindow s.monitors[v]
    else (bypassFired s).gens[v] = generatorOff ∧ (bypassFired s).emitters[v] = s.emitters[v] ∧
      (bypassFired s).monitors[v] = s.monitors[v] := by
  obtain ⟨hnodup, -⟩ := pairs_distinct s.ctl.lastY s.ctl.lastD
  have hmem : (v = (pairY s.ctl.lastY).1 ∨ v = (pairY s.ctl.lastY).2 ∨ v = (pairD s.ctl.lastD).1 ∨
      v = (pairD s.ctl.lastD).2) ↔
      v ∈ [(pairY s.ctl.lastY).1, (pairY s.ctl.lastY).2, (pairD s.ctl.lastD).1, (pairD s.ctl.lastD).2] := by simp
  obtain ⟨hout, hin⟩ := foldl_fireBypass _ hnodup (bypassPrepared s) v
  have hgen : (bypassPrepared s).gens[v] = if v ∈ [(pairY s.ctl.lastY).1, (pairY s.ctl.lastY).2, (pairD s.ctl.lastD).1,
      (pairD s.ctl.lastD).2] then s.gens[v] else generatorOff := by
    have hcell : (bypassPrepared s).gens[v] = if List.contains [(pairY s.ctl.lastY).1, (pairY s.ctl.lastY).2,
        (pairD s.ctl.lastD).1, (pairD s.ctl.lastD).2] v = true then s.gens[v] else generatorOff :=
      Vector.getElem_ofFn v.isLt
    rw [hcell]
    simp only [List.contains_iff_mem]
  rw [bypassFired_eq]
  split
  · next hv =>
    have hv := hmem.mp hv
    obtain ⟨h1, h2, h3⟩ := hin hv
    rw [if_pos hv] at hgen
    refine ⟨h1.trans ?_, h2.trans ?_, h3⟩
    · simp only [firedGenerator, bypassOrder, if_true, hgen]
      rfl
    · rw [← advanceWindow_window]
      rfl
  · next hv =>
    have hv := fun h => hv (hmem.mpr h)
    obtain ⟨h1, h2, h3⟩ := hout hv
    rw [if_neg hv] at hgen
    rw [bypassPrepared_emitters] at h2
    rw [bypassPrepared_monitors] at h3
    exact ⟨h1.trans hgen, h2, h3⟩

/-- The marks after the entry to BYPASS hold the higher valve of each leg (R126). -/
theorem bypassFired_marks (s : State) :
    (bypassFired s).ctl.lastY = some (pairY s.ctl.lastY).2 ∧ (bypassFired s).ctl.lastD = some (pairD s.ctl.lastD).2 := by
  obtain ⟨-, hy1, hy2, hd1, hd2⟩ := pairs_distinct s.ctl.lastY s.ctl.lastD
  rw [bypassFired_eq]
  simp only [List.foldl_cons, List.foldl_nil, fireBypass, fireOrder_lastY, fireOrder_lastD, bypassOrder, hy1, hy2, hd1, hd2,
    if_true, Bool.false_eq_true, if_false, and_self]

end Sys2Proof.Machine


/-! PROOF. The entry to BYPASS at its request, and the firing event (R48, R49, R126, R130). -/

namespace Sys2Proof.Machine

variable {s t : State}

/-! ### BYPASS -/

theorem takeBypass_running {tag : Nat} (h : s.ctl.state = .running) :
    takeBypass tag s = enterBypass .bypass (accept .bypass tag s) := by
  simp only [takeBypass, h]

theorem takeBypass_refused {tag : Nat} (h : s.ctl.state ≠ .running) : takeBypass tag s = refuse .bypass tag .state s := by
  unfold takeBypass
  split
  · rename_i hc
    exact absurd hc h
  · rfl

theorem bypassFired_cal (s : State) :
    (bypassFired s).cal.orders = s.cal.orders.filter (fun o => decide (o.kind ≠ .normal)) ∧
      (bypassFired s).cal.created = s.cal.created + 4 ∧ (bypassFired s).cal.fired = s.cal.fired + 4 ∧
      (bypassFired s).cal.discarded = s.cal.discarded + s.cal.orders.countP (fun o => decide (o.kind = .normal)) :=
  bypassFirings_account _ _ _

theorem bypassPrepared_fired (s : State) : (bypassPrepared s).cal.fired = s.cal.fired := rfl

theorem bypassPrepared_ring (s : State) : (bypassPrepared s).cal.ring = s.cal.ring := rfl

theorem bypassPrepared_now (s : State) : (bypassPrepared s).now = s.now := rfl

/-- The records of the four firings (R55). -/
theorem bypassFired_records (s : State) :
    let record := fun (n : Nat) (v : Valve) => (⟨s.cal.fired + n, v, .bypass, none, s.now, s.now, none, none,
      ⟨false, false, false, false⟩⟩ : FiringRecord)
    (bypassFired s).cal.ring = ([record 4 (pairD s.ctl.lastD).2, record 3 (pairD s.ctl.lastD).1,
      record 2 (pairY s.ctl.lastY).2, record 1 (pairY s.ctl.lastY).1] ++ s.cal.ring).take 64 := by
  intro record
  rw [bypassFired_eq, foldl_fireBypass_ring, bypassPrepared_fired, bypassPrepared_ring, bypassPrepared_now]
  rfl

theorem enterBypass_sends_after {m : State} {rec : OutRecord} {old : ConvState} {n : Nat} (u : StateCause)
    (hlen : s.port.outgoing.length ≤ 16) (hm : m.port.outgoing = s.port.outgoing ++ [rec])
    (hold : m.ctl.state = old) (hnow : m.now = n) :
    (s.port.outgoing ++ [rec, .noticeState old .bypass u none n]) <+: (enterBypass u m).port.outgoing := by
  simp only [enterBypass]
  refine changeState_sends_after .bypass u none hlen ?_ ?_ ?_
  · rw [bypassFirings_port]
    exact hm
  · rw [bypassFirings_ctl_state]
    exact hold
  · rw [bypassFirings_now]
    exact hnow

/-- Settles O16: the refusal, and the entry valve by valve. -/
theorem bypassHoldsTwoLegs : Obligations.BypassHoldsTwoLegs := by
  intro s tag h hq
  refine ⟨fun hc => ?_, fun hc => ?_⟩
  swap
  · exact completesReplying_plain h rfl hq (takeBypass_refused (s := abandoned (popped s)) hc)
  intro y d legY legD record
  have hexec := exec_plain h rfl
  have hbody : takeRequest tag .bypass (abandoned (popped s)) =
      enterBypass .bypass (accept .bypass tag (abandoned (popped s))) := takeBypass_running (s := abandoned (popped s)) hc
  rw [hbody] at hexec
  have hentered := enterBypass_same .bypass (accept .bypass tag (abandoned (popped s)))
  have hunmoved : Unmoved (enterBypass .bypass (accept .bypass tag (abandoned (popped s)))).ctl.state := by
    rw [hentered.ctl]
    exact .inl rfl
  have hsame := hentered.trans (settle_same _ hunmoved)
  obtain ⟨l1, l2, l3, l4, l5, l6⟩ := legs_of_marks s.ctl.lastY s.ctl.lastD
  obtain ⟨horders, hcreated, hfired, hdiscarded⟩ := bypassFired_cal (accept .bypass tag (abandoned (popped s)))
  obtain ⟨hlastY, hlastD⟩ := bypassFired_marks (accept .bypass tag (abandoned (popped s)))
  have hcal : (settle (enterBypass .bypass (accept .bypass tag (abandoned (popped s))))).cal =
      (bypassFired (accept .bypass tag (abandoned (popped s)))).cal := hsame.cal
  refine ⟨_, hexec, ?_, settle_sends (enterBypass_sends_after _ h.2 rfl hc rfl), l1, l2, l3, l4, l5, l6, ?_, ?_, ?_, ?_, ?_, ?_,
    ?_, fun v => ?_, ?_, ?_, ?_, ?_, ?_, ?_⟩
  · rw [hsame.ctl]
    rfl
  · rw [hcal, horders]
    rfl
  · rw [hcal, hcreated]
    rfl
  · rw [hcal, hfired]
    rfl
  · rw [hcal, hdiscarded]
    rfl
  · rw [hcal, bypassFired_records]
    rfl
  · rw [hsame.ctl]
    exact hlastY
  · rw [hsame.ctl]
    exact hlastD
  · have hvalve := bypassFired_valve (accept .bypass tag (abandoned (popped s))) v
    rw [hsame.gens, hsame.emitters, hsame.monitors]
    by_cases hv : v = y.1 ∨ v = y.2 ∨ v = d.1 ∨ v = d.2
    · rw [if_pos hv]
      obtain ⟨hgen, hemitter, hmonitor⟩ := (if_pos hv).mp hvalve
      exact ⟨hgen, hemitter, hmonitor.trans (advanceWindow_eq _)⟩
    · rw [if_neg hv]
      exact (if_neg hv).mp hvalve
  · rw [hsame.pru]
    exact bypassFirings_pru _ _ _
  · rw [hsame.acu]
    exact bypassFirings_acu _ _ _
  · rw [hsame.meas]
    exact bypassFirings_meas _ _ _
  · rw [hsame.now]
    exact bypassFirings_now _ _ _
  · rw [hsame.snapshot]
    exact bypassFirings_snapshot _ _ _
  · rw [hsame.store]
    exact bypassFirings_store _ _ _

/-! ### The firing event -/

/-- The firing of the first entry at its due time, short of the close of its event (R49). -/
def firstFired (o : Order) (rest : List Order) (s : State) : State :=
  fireOrder o { atTime o.due s with cal := { s.cal with orders := rest } }

theorem exec_firing {o : Order} {rest : List Order} (ho : s.cal.orders = o :: rest) (hreach : canReach o.due s = true) :
    exec .firing s = .next (settle (endTestRun (firstFired o rest s))) := by
  have hdue : nextDue s.cal = some o.due := by rw [nextDue, ho]; rfl
  have hfire : fireFirst (atTime o.due s) = firstFired o rest s := by
    have ho' : (atTime o.due s).cal.orders = o :: rest := ho
    simp only [fireFirst, ho', firstFired]
    rfl
  rw [exec, execFiring, hdue, onExpiry_taken hreach, hfire]

theorem Quiet.fireOrder (h : Quiet s) (o : Order) : Quiet (fireOrder o s) :=
  h.congr (by simp) (by simp) (by simp) (by simp)

theorem Quiet.endTestRun (h : Quiet s) : Quiet (endTestRun s) := by
  obtain ⟨-, he⟩ | ⟨-, -, -, hsame⟩ := endTestRun_cases s
  · rw [he]
    exact h
  · exact .inr (by rw [hsame.ctl]; exact .inr (.inr (.inl rfl)))

theorem endTestRun_lastY (s : State) : (endTestRun s).ctl.lastY = s.ctl.lastY := by
  obtain ⟨-, he⟩ | ⟨-, -, -, hsame⟩ := endTestRun_cases s
  · rw [he]
  · rw [hsame.ctl]
    rfl

theorem endTestRun_lastD (s : State) : (endTestRun s).ctl.lastD = s.ctl.lastD := by
  obtain ⟨-, he⟩ | ⟨-, -, -, hsame⟩ := endTestRun_cases s
  · rw [he]
  · rw [hsame.ctl]
    rfl

/-- A run that has firings left goes on (R130). -/
theorem endTestRun_of_remaining (h : s.ctl.state = .testing → 1 ≤ s.ctl.remaining) : endTestRun s = s := by
  refine if_neg ?_
  rintro ⟨hc, -, hr⟩
  have := h hc
  omega

/-- A firing that is no TEST firing of Y_0 leaves the test run's count (R130). -/
theorem fireOrder_ctl_of_not_counted {o : Order} (h : ¬(o.kind = .test ∧ o.valve = yValve s.store 0)) :
    (fireOrder o s).ctl.remaining = s.ctl.remaining := by
  have hno : ¬(o.kind = .test ∧ o.valve = yValve (markFired o.valve (pulseFiring o.valve o.kind
      (windowFiring o.valve (countFiring o s)).monitors[o.valve].window (windowFiring o.valve (countFiring o s)))).store 0) := by
    rw [show (markFired o.valve (pulseFiring o.valve o.kind (windowFiring o.valve (countFiring o s)).monitors[o.valve].window
      (windowFiring o.valve (countFiring o s)))).store = s.store by simp]
    exact h
  simp only [fireOrder, countTest, if_neg hno]
  simp

/-- A TEST firing of Y_0 lowers the count; a CONTINUOUS run at 0 begins anew (R130). -/
theorem fireOrder_ctl_of_counted {o : Order} (h : o.kind = .test ∧ o.valve = yValve s.store 0) :
    ((fireOrder o s).ctl.remaining, (fireOrder o s).ctl.wraps) =
      if s.ctl.remaining - 1 = 0 ∧ s.ctl.testMode = .continuous then (s.ctl.programmed, satSucc s.ctl.wraps)
      else (s.ctl.remaining - 1, s.ctl.wraps) := by
  have hwraps : ∀ (v : Valve) (u : State), (markFired v u).ctl.wraps = u.ctl.wraps := by
    intro v u
    unfold markFired
    split <;> rfl
  have hyes : o.kind = .test ∧ o.valve = yValve (markFired o.valve (pulseFiring o.valve o.kind
      (windowFiring o.valve (countFiring o s)).monitors[o.valve].window (windowFiring o.valve (countFiring o s)))).store 0 := by
    rw [show (markFired o.valve (pulseFiring o.valve o.kind (windowFiring o.valve (countFiring o s)).monitors[o.valve].window
      (windowFiring o.valve (countFiring o s)))).store = s.store by simp]
    exact h
  simp only [fireOrder, countTest, if_pos hyes]
  simp only [markFired_ctl_remaining, markFired_ctl_testMode, pulseFiring_ctl, windowFiring_ctl, countFiring_ctl]
  split
  · simp [hwraps]
  · simp [hwraps]

/-! ### What the event leaves -/

section
variable {o : Order} {rest : List Order}

theorem firstFired_monitors : (firstFired o rest s).monitors = s.monitors.set o.valve (advanceWindow s.monitors[o.valve]) :=
  fireOrder_monitors _ _

theorem firstFired_cal : (firstFired o rest s).cal = { s.cal with
    orders := rest
    fired := s.cal.fired + 1
    ring := pushRing (firingRecord (s.cal.fired + 1) (max s.now o.due) o) s.cal.ring } := by
  rw [firstFired, fireOrder_cal]
  rfl

theorem firstFired_state : (firstFired o rest s).ctl.state = s.ctl.state := fireOrder_ctl_state _ _

theorem firstFired_testMode : (firstFired o rest s).ctl.testMode = s.ctl.testMode := fireOrder_ctl_testMode _ _

theorem firstFired_port : (firstFired o rest s).port = s.port := fireOrder_port _ _

theorem firstFired_acu : (firstFired o rest s).acu = s.acu := fireOrder_acu _ _

theorem Quiet.firstFired (h : Quiet s) : Quiet (firstFired o rest s) :=
  Quiet.fireOrder (s := { atTime o.due s with cal := { s.cal with orders := rest } }) (h.congr rfl rfl rfl rfl) o

/-- The count of the test run after the firing, in the terms of R130. -/
theorem firstFired_counted (h : o.kind = .test ∧ o.valve = yValve s.store 0) :
    ((firstFired o rest s).ctl.remaining, (firstFired o rest s).ctl.wraps) =
      if s.ctl.remaining - 1 = 0 ∧ s.ctl.testMode = .continuous then (s.ctl.programmed, satSucc s.ctl.wraps)
      else (s.ctl.remaining - 1, s.ctl.wraps) :=
  fireOrder_ctl_of_counted (s := { atTime o.due s with cal := { s.cal with orders := rest } }) h

theorem firstFired_not_counted (h : ¬(o.kind = .test ∧ o.valve = yValve s.store 0)) :
    (firstFired o rest s).ctl.remaining = s.ctl.remaining :=
  fireOrder_ctl_of_not_counted (s := { atTime o.due s with cal := { s.cal with orders := rest } }) h

/-- A run that has firings left after this one: the event is the firing alone (R130). -/
theorem endTestRun_firstFired (h : s.ctl.state = .testing → 1 ≤ (firstFired o rest s).ctl.remaining) :
    endTestRun (firstFired o rest s) = firstFired o rest s :=
  endTestRun_of_remaining (by rw [firstFired_state]; exact h)

theorem firstFired_goes_on (ht : TestCountInv s) (h : ¬(o.kind = .test ∧ o.valve = yValve s.store 0)) :
    endTestRun (firstFired o rest s) = firstFired o rest s :=
  endTestRun_firstFired fun hc => by
    rw [firstFired_not_counted h]
    exact (ht (.inl hc)).1

end

/-- Settles O47: the firing itself, then the end of a FIXED run where its count comes to 0. -/
theorem firingFiresTheFirstEntry : Obligations.FiringFiresTheFirstEntry := by
  intro s o rest ho hreach hq rec' counts
  have hexec := exec_firing ho hreach
  have hsame : SameButResolver (endTestRun (firstFired o rest s)) (settle (endTestRun (firstFired o rest s))) :=
    settle_quiet hq.firstFired.endTestRun
  have hmonitors : (settle (endTestRun (firstFired o rest s))).monitors =
      s.monitors.set o.valve (advanceWindow s.monitors[o.valve]) := by
    rw [hsame.monitors, endTestRun_monitors, firstFired_monitors]
  have hown : (settle (endTestRun (firstFired o rest s))).monitors[o.valve] = advanceWindow s.monitors[o.valve] := by
    rw [hmonitors]
    exact Vector.getElem_set_self _
  have goes : endTestRun (firstFired o rest s) = firstFired o rest s →
      (settle (endTestRun (firstFired o rest s))).cal.orders = rest ∧
      (settle (endTestRun (firstFired o rest s))).cal.discarded = s.cal.discarded ∧
      (settle (endTestRun (firstFired o rest s))).ctl = (firstFired o rest s).ctl := by
    intro he
    rw [hsame.cal, hsame.ctl, he, firstFired_cal]
    exact ⟨rfl, rfl, rfl⟩
  refine ⟨_, hexec, ?_, ?_, ?_, ?_, ?_, ?_, fun hclosed => ?_, fun hw ha => ?_, ?_, fun ht hno => ?_, ?_, ?_, ?_, ?_, ?_, ?_, ?_, ?_,
    ?_, ?_, fun v hv => ?_, fun hc hcount hrem => ?_, fun hc hcount hmode hrem hprog => ?_, fun hc hcount hmode hrem => ?_⟩
  · rw [hsame.now, endTestRun_now]
    exact fireOrder_now _ _
  · rw [hsame.cal, endTestRun_cal_created, firstFired_cal]
  · rw [hsame.cal, endTestRun_cal_fired, firstFired_cal]
  · rw [hsame.cal, endTestRun_cal_ring, firstFired_cal]
    rfl
  · rw [hown, advanceWindow_window]
  · rw [hown, advanceWindow_eq]
    split <;> rfl
  · rw [hown, advanceWindow_eq, if_pos hclosed]
    exact ⟨rfl, rfl⟩
  · rw [hown, advanceWindow_eq, if_neg fun h => h.elim hw fun h => Bool.false_ne_true (ha.symm.trans h)]
    exact ⟨rfl, rfl⟩
  · split
    · next hy =>
      rw [hsame.ctl, endTestRun_lastY]
      exact (fireOrder_lastY _ _).trans (if_pos hy)
    · next hy =>
      rw [hsame.ctl, endTestRun_lastD]
      exact (fireOrder_lastD _ _).trans (if_neg hy)
  · obtain ⟨h1, h2, h3⟩ := goes (firstFired_goes_on ht hno)
    refine ⟨h1, h2, ?_, ?_⟩
    · rw [h3, firstFired_state]
    · rw [h3, firstFired_not_counted hno]
  · rw [hsame.pru, endTestRun_pru]
    exact fireOrder_pru _ _
  · rw [hsame.store, endTestRun_store]
    exact fireOrder_store _ _
  · rw [hsame.meas, endTestRun_meas]
    exact fireOrder_meas _ _
  · rw [hsame.snapshot, endTestRun_snapshot]
    exact fireOrder_snapshot _ _
  · rw [settle_port_requests, endTestRun_port_requests, firstFired_port]
  · rw [hsame.acu, endTestRun_acu_active, firstFired_acu]
  · rw [hsame.acu, endTestRun_acu_waiting, firstFired_acu]
  · rw [hsame.acu, endTestRun_acu_aPrev, firstFired_acu]
  · rw [hsame.acu, endTestRun_acu_cfpMargin, firstFired_acu]
  · rw [hsame.acu, endTestRun_acu_cfpHold, firstFired_acu]
  · rw [hmonitors]
    exact Vector.getElem_set_ne _ _ fun h => hv (Fin.ext h.symm)
  · have hctl := firstFired_counted (rest := rest) hcount
    rw [if_neg (by omega), Prod.mk.injEq] at hctl
    obtain ⟨h1, -, h3⟩ := goes (endTestRun_firstFired fun _ => by rw [hctl.1]; omega)
    refine ⟨?_, ?_, h1⟩
    · rw [h3, firstFired_state]
      exact hc
    · rw [h3, hctl.1]
  · have hctl := firstFired_counted (rest := rest) hcount
    rw [if_pos ⟨by omega, hmode⟩, Prod.mk.injEq] at hctl
    obtain ⟨h1, -, h3⟩ := goes (endTestRun_firstFired fun _ => by rw [hctl.1]; exact hprog)
    refine ⟨?_, ?_, ?_, h1⟩
    · rw [h3, firstFired_state]
      exact hc
    · rw [h3, hctl.1]
    · rw [h3, hctl.2]
      rfl
  · have hctl := firstFired_counted (rest := rest) hcount
    rw [if_neg (by simp [hmode]), Prod.mk.injEq] at hctl
    have hzero : (firstFired o rest s).ctl.remaining = 0 := by rw [hctl.1]; omega
    have hend : endTestRun (firstFired o rest s) = enterBlocked .testDone none
        { firstFired o rest s with ctl := { (firstFired o rest s).ctl with testDone := true } } :=
      if_pos ⟨by rw [firstFired_state]; exact hc, by rw [firstFired_testMode]; exact hmode, hzero⟩
    have hblocked := enterBlocked_same .testDone none
      { firstFired o rest s with ctl := { (firstFired o rest s).ctl with testDone := true } }
    rw [← hend] at hblocked
    have hall := hblocked.trans hsame
    refine ⟨?_, ?_, ?_, ?_, ?_, fun v => ?_, fun hlen => settle_sends ?_⟩
    · rw [hall.ctl]
      rfl
    · rw [hall.ctl]
      rfl
    · rw [hall.ctl]
      exact hzero
    · rw [hall.cal]
      rfl
    · rw [hall.cal]
      change (firstFired o rest s).cal.discarded + (firstFired o rest s).cal.orders.length = _
      rw [firstFired_cal]
    · rw [hall.gens]
      simp [blockedState]
    · have hsent := enterBlocked_sends .testDone none
        (s := { firstFired o rest s with ctl := { (firstFired o rest s).ctl with testDone := true } })
        (by rw [firstFired_port]; exact hlen)
      rw [← hend] at hsent
      rw [firstFired_port, firstFired_state, hc] at hsent
      rw [show (firstFired o rest s).now = max s.now o.due from fireOrder_now _ _] at hsent
      exact hsent

/-- Settles O48: a firing that ends no test run leaves the fired generator and its pulse. -/
theorem firingStartsTrainOrHold : Obligations.FiringStartsTrainOrHold := by
  intro s o rest ho hreach hq ht hno tf v g trainEnd lit
  have hexec := exec_firing ho hreach
  rw [firstFired_goes_on ht hno] at hexec
  have hsame : SameButResolver (firstFired o rest s) (settle (firstFired o rest s)) := settle_quiet hq.firstFired
  refine ⟨_, hexec, ?_, ?_⟩
  · rw [hsame.gens, firstFired, fireOrder_gens]
    refine congrArg (s.gens.set o.valve ·) ?_
    unfold firedGenerator
    split <;> rfl
  · rw [hsame.emitters, hsame.monitors, firstFired_monitors, firstFired, fireOrder_emitters]
    simp [firedEmitter, atTime, tf]

end Sys2Proof.Machine


/-! PROOF. Crossings: the Phase Reference Unit's part (R3 to R6, R11 to R15). -/

namespace Sys2Proof.Machine

variable {s t : State}

/-! ### A crossing between frames -/

/-- The state in which a crossing between frames has been taken, short of the end of a test run and of the grants. -/
def crossingTaken (kind lag : Nat) (s : State) : State := takeCrossing kind lag (frameEnded .measurement s)

theorem exec_crossing (h : betweenFrames .measurement s = true) (kind lag : Nat) :
    exec (.crossing kind lag) s = .next (settle (endTestRun (crossingTaken kind lag s))) :=
  congrArg Host.Outcome.next (arrive_between h _ _)

theorem crossingTaken_eq (kind lag : Nat) (s : State) : crossingTaken kind lag s =
    afterPru (pruCrossing s.store.setup.phase kind (s.now - lag) s.pru) (frameEnded .measurement s) := rfl

@[simp] theorem afterPru_now (r : Pru × Option RefPoint) (s : State) : (afterPru r s).now = s.now :=
  afterPru_frame State.now (fun _ _ => rfl) (fun o s => takeOrder_now s o) r s

@[simp] theorem afterPru_meas (r : Pru × Option RefPoint) (s : State) : (afterPru r s).meas = s.meas :=
  afterPru_frame State.meas (fun _ _ => rfl) (fun o s => takeOrder_meas s o) r s

@[simp] theorem afterPru_snapshot (r : Pru × Option RefPoint) (s : State) : (afterPru r s).snapshot = s.snapshot :=
  afterPru_frame State.snapshot (fun _ _ => rfl) (fun o s => takeOrder_snapshot s o) r s

/-! ### The PRU's answer to a crossing -/

theorem pruCrossing_unlocked {u : Pru} (ph : PhaseValues) (kind time : Nat) (h : u.lock = .unlocked) :
    pruCrossing ph kind time u = (if kind = 0 then startAcquisition ph time u else u, none) := by
  unfold pruCrossing
  rw [h]

theorem pruCrossing_locked {u : Pru} {q : Prediction} (ph : PhaseValues) (kind time : Nat) (h : u.lock ≠ .unlocked)
    (hq : u.pred = some q) : pruCrossing ph kind time u =
      if kind = u.k ∧ (crossingError q time).natAbs ≤ q.wEff then
        ((acceptCrossing ph q (crossingError q time) u).1, some (acceptCrossing ph q (crossingError q time) u).2)
      else (countDistorted u, none) := by
  unfold pruCrossing
  rw [hq]
  by_cases hk : kind = u.k <;> by_cases he : (crossingError q time).natAbs ≤ q.wEff <;>
    cases hl : u.lock <;> simp_all

theorem pruCrossing_rejects {u : Pru} {q : Prediction} {ph : PhaseValues} {kind time : Nat} (h : u.lock ≠ .unlocked)
    (hq : u.pred = some q) (hr : kind ≠ u.k ∨ time + q.wEff < q.tPred) :
    pruCrossing ph kind time u = (countDistorted u, none) := by
  rw [pruCrossing_locked ph kind time h hq]
  refine if_neg ?_
  rintro ⟨hk, he⟩
  have hlate := hr.resolve_left (· hk)
  unfold crossingError at he
  omega

theorem pruCrossing_accepts {u : Pru} {q : Prediction} (ph : PhaseValues) {time : Nat} (h : u.lock ≠ .unlocked)
    (hq : u.pred = some q) (he : (crossingError q time).natAbs ≤ q.wEff) : pruCrossing ph u.k time u =
      ((acceptCrossing ph q (crossingError q time) u).1, some (acceptCrossing ph q (crossingError q time) u).2) := by
  rw [pruCrossing_locked ph u.k time h hq]
  exact if_pos ⟨rfl, he⟩

/-! ### A crossing that makes no point -/

/-- No condition reads the count of rejected crossings (R101). -/
theorem Settled.countDistorted (h : Settled s) : Settled { s with pru := Machine.countDistorted s.pru } := by
  have hc : ∀ src, conditionHolds { s with pru := Machine.countDistorted s.pru } src = conditionHolds s src := by
    intro src
    cases src <;> rfl
  obtain ⟨hstep, hgrant⟩ := h
  refine ⟨fun src he => ?_, hgrant⟩
  rw [hc src]
  exact hstep src he

/-- The state of a crossing that makes no point is closed without a change where the resolver has nothing to do. -/
theorem settle_endTestRun_of_settled (h : Settled t) (hrun : TestCountInv t) : settle (endTestRun t) = t := by
  rw [endTestRun_of_remaining fun hc => (hrun (.inl hc)).1]
  exact settle_of_settled _ h

/-- Settles O35: the three answers of the PRU, none of which makes a reference point. -/
theorem crossingStartsOrIsRejected : Obligations.CrossingStartsOrIsRejected := by
  intro s kind lag hb arrived
  rw [exec_crossing hb, crossingTaken_eq]
  refine ⟨fun hl hk => ⟨_, rfl, ?_⟩, fun hset hrun => ?_⟩
  · rw [settle_pru, endTestRun_pru, afterPru_pru, pruCrossing_unlocked _ _ _ hl, if_pos hk]
    rfl
  have harrived : Settled arrived := hset.congr rfl rfl rfl rfl rfl rfl rfl rfl
  refine ⟨fun hl hk => ?_, fun hl q hq hr => ?_⟩
  · rw [pruCrossing_unlocked _ _ _ hl, if_neg hk]
    exact congrArg Host.Outcome.next (settle_endTestRun_of_settled harrived hrun)
  · rw [pruCrossing_rejects hl hq hr]
    exact congrArg Host.Outcome.next (settle_endTestRun_of_settled harrived.countDistorted hrun)

/-! ### An accepted crossing -/

/-- An accepted crossing outside W_p starts the count of good crossings anew (R13). -/
theorem lockOnAccept_bad {u : Pru} (h : u.lock = .acquiring) :
    lockOnAccept false u = { u with good := 0, flywheel := 0 } := by
  unfold lockOnAccept
  rw [h]
  rfl

/-- Neither the end of a test run nor a grant writes a level. -/
theorem settle_endTestRun_levels (s : State) (v : Valve) :
    (settle (endTestRun s)).monitors[v].levels = s.monitors[v].levels := by
  rw [← endTestRun_monitors s]
  exact settle_levels _ v.val v.isLt

/-- Settles O36: the reference is corrected, and the lock counts step by the lock state. -/
theorem crossingAcceptedCorrects : Obligations.CrossingAcceptedCorrects := by
  intro s lag q e hb hq he hw ph p tRef after
  rw [exec_crossing hb, crossingTaken_eq]
  have herr : crossingError q (s.now - lag) = e := he.symm
  have hpru : s.pru.lock ≠ .unlocked →
      (settle (endTestRun (afterPru (pruCrossing s.store.setup.phase s.pru.k (s.now - lag) s.pru)
        (frameEnded .measurement s)))).pru =
      makePrediction ph.w (lockOnAccept (decide (e.natAbs ≤ q.wp)) (correctReference ph q e s.pru)) := by
    intro hl
    rw [settle_pru, endTestRun_pru, afterPru_pru, pruCrossing_accepts _ hl hq (by rwa [herr]), herr]
    rfl
  refine ⟨_, rfl, by simp, by simp, by simp, by simp, by simp [afterPru_port], ?_, ?_, ?_, ?_⟩
  · intro v
    exact (settle_endTestRun_levels _ v).trans (afterPru_levels _ _ v.val v.isLt)
  · intro hl
    rw [hpru (by simp [hl])]
    simp [lockOnAccept, correctReference, hl, makePrediction, after, p, tRef]
  · intro hl
    rw [hpru (by simp [hl])]
    have hacq : (correctReference ph q e s.pru).lock = .acquiring := hl
    refine ⟨fun hbad => ?_, fun hgood hcount => ?_, fun hgood hcount => ?_⟩
    · rw [decide_eq_false (by omega), lockOnAccept_bad hacq]
      simp [correctReference, hl, makePrediction, after, p, tRef]
    · have hmore : ¬12 ≤ s.pru.good + 1 := by omega
      simp [lockOnAccept, correctReference, hl, makePrediction, after, p, tRef, hgood, hmore]
    · simp [lockOnAccept, correctReference, hl, makePrediction, after, p, tRef, hgood, hcount, enterLocked]
  · intro hl
    rw [hpru (by simp [hl])]
    refine ⟨fun hcount => ?_, fun hcount => ?_⟩
    · have hmore : ¬3 ≤ s.pru.good + 1 := by omega
      simp [lockOnAccept, correctReference, hl, makePrediction, after, p, tRef, hmore]
    · simp [lockOnAccept, correctReference, hl, makePrediction, after, p, tRef, hcount, enterLocked]

end Sys2Proof.Machine


/-! PROOF. Taking an order, and the work at a usable reference point (R24, R26, R33 to R37, R45 to R47, R130). -/

namespace Sys2Proof.Machine

variable {s t : State}

/-! ### The standing order -/

/-- With one order a valve, the orders that stand for a valve are the first of them, if there is one (R44). -/
theorem filter_standing {l : List Order} (h : (l.map (·.valve)).Nodup) (v : Valve) :
    l.filter (isStandingFor v) = (l.find? (isStandingFor v)).toList := by
  induction l with
  | nil => rfl
  | cons x xs ih =>
    simp only [List.map_cons, List.nodup_cons] at h
    by_cases hx : isStandingFor v x = true
    · have hv : x.valve = v := by
        simp only [isStandingFor, Bool.and_eq_true, decide_eq_true_eq] at hx
        exact hx.1
      have hrest : ∀ o ∈ xs, ¬isStandingFor v o = true := by
        intro o ho
        have hne : o.valve ≠ v := fun he => h.1 (List.mem_map.mpr ⟨o, ho, he.trans hv.symm⟩)
        simp [isStandingFor, hne]
      rw [List.filter_cons_of_pos hx, List.find?_cons_of_pos hx, List.filter_eq_nil_iff.mpr hrest]
      rfl
    · rw [List.filter_cons_of_neg hx, List.find?_cons_of_neg hx, ih h.2]

theorem fireStanding_none {v : Valve} (h : s.cal.orders.find? (isStandingFor v) = none) : fireStanding v s = s := by
  unfold fireStanding
  rw [h]

theorem fireStanding_some {v : Valve} {x : Order} (h : s.cal.orders.find? (isStandingFor v) = some x) :
    fireStanding v s = fireOrder (markLate x)
      { s with cal := { s.cal with orders := s.cal.orders.eraseP (isStandingFor v) } } := by
  unfold fireStanding
  rw [h]

/-! ### Taking an order -/

/-- The records of LATE firings at `now` after `n` earlier ones, in the order of the firings (R46, R47, R55). -/
def lateRecords (now n : Nat) (fired : List Order) : List FiringRecord :=
  fired.mapIdx fun i x => firingRecord (n + i + 1) now (markLate x)

/-- The calendar after LATE firings of orders that have left its list (R46, R47). -/
def lateFired (now : Nat) (fired : List Order) (c : Calendar) : Calendar :=
  { c with
    fired := c.fired + fired.length
    ring := if fired = [] then c.ring else ((lateRecords now c.fired fired).reverse ++ c.ring).take 64 }

/-- One more LATE firing (R55, R56). -/
theorem lateFired_snoc (now : Nat) (l : List Order) (x : Order) (c : Calendar) :
    { lateFired now l c with
      fired := (lateFired now l c).fired + 1
      ring := pushRing (firingRecord ((lateFired now l c).fired + 1) now (markLate x)) (lateFired now l c).ring } =
      lateFired now (l ++ [x]) c := by
  have hrecords : lateRecords now c.fired (l ++ [x]) =
      lateRecords now c.fired l ++ [firingRecord (c.fired + l.length + 1) now (markLate x)] := by
    rw [lateRecords, List.mapIdx_append, List.mapIdx_singleton, Nat.zero_add]
    rfl
  by_cases hl : l = []
  · subst hl
    rfl
  · have hpush : pushRing (firingRecord (c.fired + l.length + 1) now (markLate x)) (lateFired now l c).ring =
        ((lateRecords now c.fired (l ++ [x])).reverse ++ c.ring).take 64 := by
      rw [hrecords, List.reverse_append]
      unfold lateFired
      rw [if_neg hl, pushRing_take]
      rfl
    have hne : l ++ [x] ≠ [] := by simp
    rw [show (lateFired now l c).fired = c.fired + l.length from rfl, hpush]
    unfold lateFired
    rw [if_neg hne, List.length_append]
    rfl

/-- The calendar of a LATE firing of an order that has left the list (R46, R47). -/
theorem fireOrder_late_cal {c : Calendar} {l : List Order} {x : Order} (h : s.cal = lateFired s.now l c) :
    (fireOrder (markLate x) s).cal = lateFired s.now (l ++ [x]) c := by
  rw [fireOrder_cal, h]
  exact lateFired_snoc s.now l x c

/-- The firing of the standing order takes the orders that stand for the valve out of the list (R46). -/
theorem fireStanding_cal (v : Valve) (h : (s.cal.orders.map (·.valve)).Nodup) :
    (fireStanding v s).cal = lateFired s.now (s.cal.orders.filter (isStandingFor v))
      { s.cal with orders := s.cal.orders.filter fun x => !isStandingFor v x } := by
  rw [filter_standing h v, ← eraseP_standing_eq_filter h v]
  cases hf : s.cal.orders.find? (isStandingFor v) with
  | none =>
    have herase : s.cal.orders.eraseP (isStandingFor v) = s.cal.orders :=
      List.eraseP_of_forall_not (List.find?_eq_none.mp hf)
    rw [fireStanding_none hf, herase]
    rfl
  | some x =>
    rw [fireStanding_some hf]
    exact fireOrder_late_cal (l := []) rfl

/-- Taking a NORMAL or TEST order does to the calendar what R45 to R47 state. -/
theorem takeOrder_orderTaken (o : Order) (h : (s.cal.orders.map (·.valve)).Nodup) :
    OrderTaken s.now o s.cal (takeOrder o s).cal := by
  have hstanding : (fireStanding o.valve { s with cal := { s.cal with created := s.cal.created + 1 } }).cal =
      lateFired s.now (s.cal.orders.filter (isStandingFor o.valve))
        { s.cal with
          created := s.cal.created + 1
          orders := s.cal.orders.filter fun x => !isStandingFor o.valve x } :=
    fireStanding_cal (s := { s with cal := { s.cal with created := s.cal.created + 1 } }) o.valve h
  have hnow : (fireStanding o.valve { s with cal := { s.cal with created := s.cal.created + 1 } }).now = s.now :=
    fireStanding_now _ _
  unfold takeOrder OrderTaken
  dsimp only
  rw [hnow]
  by_cases hd : o.due ≤ s.now
  · rw [if_pos hd, if_pos hd, if_pos hd]
    have hcal := fireOrder_late_cal (x := o) (by rw [hnow]; exact hstanding)
    rw [hnow] at hcal
    rw [hcal, List.append_nil]
    exact ⟨rfl, rfl, rfl, rfl, .refl _⟩
  · rw [if_neg hd, if_neg hd, if_neg hd, List.append_nil]
    unfold enterOrder
    dsimp only
    rw [hstanding]
    refine ⟨rfl, rfl, rfl, rfl, ?_⟩
    exact (insertOrder_perm _ _ _).trans (List.perm_append_singleton _ _).symm

/-! ### What a test run has left -/

/-- A test run in TESTING is CONTINUOUS or has at least `n` firings left (R130). -/
def RunLeft (n : Nat) (s : State) : Prop :=
  s.ctl.state = .testing → s.ctl.testMode = .continuous ∨ n ≤ s.ctl.remaining

theorem RunLeft.congr {n : Nat} (h : RunLeft n s) (hc : t.ctl.state = s.ctl.state)
    (hm : t.ctl.testMode = s.ctl.testMode) (hr : t.ctl.remaining = s.ctl.remaining) : RunLeft n t := by
  unfold RunLeft
  rw [hc, hm, hr]
  exact h

theorem endTestRun_of_runLeft (h : RunLeft 1 s) : endTestRun s = s := by
  refine if_neg ?_
  rintro ⟨hc, hm, hr⟩
  obtain h1 | h1 := h hc
  · rw [hm] at h1
    cases h1
  · omega

theorem countTest_runLeft {n : Nat} {o : Order} (h : RunLeft (n + 1) s) : RunLeft n (countTest o s) := by
  unfold countTest
  split
  · dsimp only
    split
    · next hwrap => exact fun _ => .inl hwrap.2
    · intro hc
      obtain h1 | h1 := h hc
      · exact .inl h1
      · refine .inr ?_
        dsimp only
        omega
  · intro hc
    obtain h1 | h1 := h hc
    · exact .inl h1
    · exact .inr (by omega)

/-- A firing lowers the count of a test run at most by 1 (R130). -/
theorem fireOrder_runLeft {n : Nat} {o : Order} (h : RunLeft (n + 1) s) : RunLeft n (fireOrder o s) := by
  unfold fireOrder
  refine countTest_runLeft (h.congr ?_ ?_ ?_) <;> unfold markFired <;> split <;> rfl

theorem RunLeft.mono {m n : Nat} (h : RunLeft n s) (hm : m ≤ n) : RunLeft m s := by
  intro hc
  obtain h1 | h1 := h hc
  · exact .inl h1
  · exact .inr (hm.trans h1)

/-- The taking of an order fires at most two (R46, R47). -/
theorem takeOrder_runLeft {n : Nat} (o : Order) (h : RunLeft (n + 2) s) : RunLeft n (takeOrder o s) := by
  have hstanding : RunLeft (n + 1)
      (fireStanding o.valve { s with cal := { s.cal with created := s.cal.created + 1 } }) := by
    unfold fireStanding
    split
    · exact fireOrder_runLeft (h.congr rfl rfl rfl)
    · exact (h.mono (by omega)).congr rfl rfl rfl
  unfold takeOrder
  dsimp only
  split
  · exact fireOrder_runLeft hstanding
  · exact (hstanding.mono (by omega)).congr rfl rfl rfl

/-! ### The work at a usable point -/

/-- The ACU after the first two steps at a usable point (R24, R37). -/
def pointAcu (rn : Nat) (s : State) : Acu :=
  decayMargin s.store.setup.guard.cfpDecay s.meas.stale (applyPending rn s.acu)

theorem applyPending_eq (rn : Nat) (a : Acu) : applyPending rn a =
    { a with
      active := if a.waiting.any fun w => decide (w.applyPoint ≤ rn) then a.waiting.map (·.angle) else a.active
      waiting := if a.waiting.any fun w => decide (w.applyPoint ≤ rn) then none else a.waiting } := by
  obtain ⟨active, waiting, aPrev, testAngle, cfpMargin, cfpHold⟩ := a
  cases waiting with
  | none => rfl
  | some w => by_cases hr : w.applyPoint ≤ rn <;> simp [applyPending, hr]

theorem decayMargin_eq (decay : Nat) (stale : Bool) (a : Acu) : decayMargin decay stale a =
    { a with cfpMargin := if a.cfpHold = none ∧ stale = false then a.cfpMargin - decay else a.cfpMargin } := by
  unfold decayMargin
  by_cases h : a.cfpHold = none ∧ stale = false
  · rw [if_pos h, if_pos (by simp [h])]
  · rw [if_neg h, if_neg (by simpa using h)]

theorem pointAcu_eq (rn : Nat) (s : State) : pointAcu rn s =
    { s.acu with
      active := if s.acu.waiting.any fun w => decide (w.applyPoint ≤ rn) then s.acu.waiting.map (·.angle)
        else s.acu.active
      waiting := if s.acu.waiting.any fun w => decide (w.applyPoint ≤ rn) then none else s.acu.waiting
      cfpMargin := if s.acu.cfpHold = none ∧ s.meas.stale = false then
          s.acu.cfpMargin - s.store.setup.guard.cfpDecay
        else s.acu.cfpMargin } := by
  rw [pointAcu, decayMargin_eq, applyPending_eq]

theorem usablePoint_resting (r : RefPoint) (h : isFiring s.ctl.state = false) :
    usablePoint r s = { s with acu := pointAcu r.rn s } := by
  unfold usablePoint
  dsimp only
  rw [if_neg (by rw [h]; decide)]
  rfl

theorem usablePoint_firing (r : RefPoint) (h : isFiring s.ctl.state = true) :
    usablePoint r s = makeOrders r { s with acu := pointAcu r.rn s } :=
  if_pos h

theorem makeOrders_runLeft {n : Nat} (r : RefPoint) (h : RunLeft (n + 4) s) : RunLeft n (makeOrders r s) :=
  takeOrder_runLeft _ (takeOrder_runLeft _ (h.congr rfl rfl rfl))

/-- The two orders of a computation are taken one after the other (R34, R45). -/
theorem makeOrders_taken (r : RefPoint) (hf : isFiring s.ctl.state = true) (h : CalendarInv s) :
    ∃ m, OrderTaken s.now (orderY s r (appliedAngle s)) s.cal m ∧
      OrderTaken s.now (orderD s r (appliedAngle s)) m (makeOrders r s).cal := by
  have hkind : ∀ v x, standingKind s.ctl.state = some (orderFor s r (appliedAngle s) v x).kind := by
    intro v x
    unfold orderFor
    dsimp only
    cases hc : s.ctl.state <;> simp_all [isFiring, standingKind]
  let start : State := { s with acu := { s.acu with aPrev := (appliedAngle s).value } }
  have hstart : CalendarInv start := h
  refine ⟨_, takeOrder_orderTaken (s := start) _ h.2, ?_⟩
  have hsecond := takeOrder_orderTaken (s := takeOrder (orderY s r (appliedAngle s)) start) (orderD s r (appliedAngle s))
    (takeOrder_calendar (s := start) (o := orderY s r (appliedAngle s)) (hkind _ _) hstart).2
  rw [takeOrder_now] at hsecond
  exact hsecond

/-- The order of a computation with its mu written out by role and state (R30, R34). -/
theorem orderFor_eq (s : State) (r : RefPoint) (a : Angle) (v : Valve) (x : Nat) : orderFor s r a v x =
    ⟨v, if s.ctl.state = .testing then .test else .normal, r.time + (x * r.period + 18000) / 36000, some a.value,
      if s.store.setup.role = .inverter then
        some (if s.ctl.state = .running then overlap s.store s.meas.heldId s.meas.heldUac else 0)
      else none, some r.rn, a.flags⟩ := by
  unfold orderFor presentMu
  by_cases hr : s.store.setup.role = .inverter <;> simp [hr] <;> rfl

theorem makeOrders_acu (r : RefPoint) (s : State) :
    (makeOrders r s).acu = { s.acu with aPrev := (appliedAngle s).value } := by
  unfold makeOrders
  dsimp only
  rw [takeOrder_acu, takeOrder_acu]

/-- The point is worked as R24, R33 to R37 and R45 state, where no test run ends at it. -/
theorem usablePoint_worked (r : RefPoint) (hcal : CalendarInv s) (ht : t.acu = (usablePoint r s).acu)
    (hc : t.cal = (usablePoint r s).cal) : PointWorked s t s.now r.kind r.rn r.time r.period := by
  unfold PointWorked
  dsimp only
  refine ⟨fun hf => ?_, fun hf => ⟨?_, fun y d hy hd => ?_⟩⟩
  · rw [← pointAcu_eq]
    rw [ht, hc, usablePoint_resting r hf]
    exact ⟨rfl, rfl⟩
  · rw [ht, usablePoint_firing r hf, makeOrders_acu, pointAcu_eq]
  · rw [← pointAcu_eq, hc, usablePoint_firing r hf]
    have hyv : yValve s.store r.kind = y := by rw [yValve, hy]; rfl
    have hdv : dValve s.store r.kind = d := by rw [dValve, hd]; rfl
    obtain ⟨m, hfirst, hsecond⟩ := makeOrders_taken (s := { s with acu := pointAcu r.rn s }) r hf hcal
    rw [orderY, orderFor_eq] at hfirst
    rw [orderD, orderFor_eq] at hsecond
    rw [← hyv, ← hdv]
    exact ⟨m, hfirst, hsecond⟩

end Sys2Proof.Machine


/-! PROOF. The point of an accepted crossing (R9, R26). -/

namespace Sys2Proof.Machine

variable {s t : State}

@[simp] theorem afterPru_state (r : Pru × Option RefPoint) (s : State) : (afterPru r s).ctl.state = s.ctl.state :=
  afterPru_frame (fun u => u.ctl.state) (fun _ _ => rfl) (fun o s => takeOrder_ctl_state s o) r s

/-! ### The close of an event that has made a point -/

/-- An event of the PRU with its point taken leaves the converter where it is, when the PRU is then not in UNLOCKED
without need. -/
theorem Quiet.afterPru {r : Pru × Option RefPoint} (h : Quiet s) (hlock : r.1.lock = .unlocked → s.pru.lock = .unlocked) :
    Quiet (afterPru r s) := by
  obtain ⟨h1, h2, h3, hphase, hlink⟩ | hun := h
  · refine .inl ?_
    unfold Calm isPending conditionHolds at *
    rw [afterPru_prot, afterPru_pru, afterPru_state, afterPru_port]
    refine ⟨h1, h2, h3, ?_, hlink⟩
    by_cases hl : r.1.lock = .unlocked
    · rw [hlock hl] at hphase
      rw [hl]
      exact hphase
    · simp [hl]
  · exact .inr (by rw [afterPru_state]; exact hun)

theorem isUsable_iff {r : RefPoint} : isUsable r = true ↔ r.madeIn = .locked ∨ r.madeIn = .holdover := by
  rw [isUsable, Bool.or_eq_true, decide_eq_true_iff, decide_eq_true_iff]

theorem afterPru_usable {u : Pru} {r : RefPoint} (h : isUsable r = true) :
    afterPru (u, some r) s = usablePoint r { s with pru := u } := if_pos h

theorem afterPru_unusable {u : Pru} {r : RefPoint} (h : isUsable r = false) :
    afterPru (u, some r) s = { s with pru := u } := if_neg (by rw [h]; decide)

/-- The close of an event of the PRU in a quiet state where no test run ends. -/
theorem settle_afterPru {r : Pru × Option RefPoint} (h : Quiet s) (hlock : r.1.lock = .unlocked → s.pru.lock = .unlocked)
    (hrun : RunLeft 1 (afterPru r s)) : SameButResolver (afterPru r s) (settle (endTestRun (afterPru r s))) := by
  rw [endTestRun_of_runLeft hrun]
  exact settle_quiet (h.afterPru hlock)

theorem usablePoint_runLeft {r : RefPoint} (h : RunGoesOn s) : RunLeft 1 (usablePoint r s) := by
  cases hf : isFiring s.ctl.state with
  | false =>
    rw [usablePoint_resting r hf]
    exact RunLeft.mono (n := 5) (RunLeft.congr (s := s) h rfl rfl rfl) (by omega)
  | true =>
    rw [usablePoint_firing r hf]
    exact makeOrders_runLeft r (RunLeft.congr (s := s) h rfl rfl rfl)

/-- Where no FIXED run can end at a point, the taking of the point leaves the run going (R130). -/
theorem afterPru_runLeft {u : Pru} {r : RefPoint} (h : RunGoesOn s) : RunLeft 1 (afterPru (u, some r) s) := by
  cases hr : isUsable r with
  | false =>
    rw [afterPru_unusable hr]
    exact RunLeft.mono (n := 5) (RunLeft.congr (s := s) h rfl rfl rfl) (by omega)
  | true =>
    rw [afterPru_usable hr]
    exact usablePoint_runLeft (s := { s with pru := u }) h

/-- A usable point is worked as its rules state, and the close of its event keeps its work. -/
theorem settle_point_worked {u : Pru} {r : RefPoint} (h : Quiet s) (hlock : u.lock = .unlocked → s.pru.lock = .unlocked)
    (hr : isUsable r = true) (hcal : CalendarInv s) (hrun : RunGoesOn s) :
    PointWorked s (settle (endTestRun (afterPru (u, some r) s))) s.now r.kind r.rn r.time r.period := by
  have hsame := settle_afterPru (r := (u, some r)) h hlock (afterPru_runLeft hrun)
  have hworked : PointWorked { s with pru := u } (settle (endTestRun (afterPru (u, some r) s))) s.now r.kind r.rn r.time
      r.period := by
    rw [afterPru_usable hr] at hsame ⊢
    exact usablePoint_worked (s := { s with pru := u }) r hcal hsame.acu hsame.cal
  exact hworked

/-- A point of ACQUIRING makes no order (R9). -/
theorem settle_point_unused {u : Pru} {r : RefPoint} (h : Quiet s) (hlock : u.lock = .unlocked → s.pru.lock = .unlocked)
    (hr : isUsable r = false) (hrun : TestCountInv s) :
    (settle (endTestRun (afterPru (u, some r) s))).acu = s.acu ∧
      (settle (endTestRun (afterPru (u, some r) s))).cal = s.cal := by
  have hleft : RunLeft 1 (afterPru (u, some r) s) := by
    rw [afterPru_unusable hr]
    exact fun hc => .inr (hrun (.inl hc)).1
  have hsame := settle_afterPru h hlock hleft
  rw [afterPru_unusable hr] at hsame ⊢
  exact ⟨hsame.acu, hsame.cal⟩

/-- A converter that fires no valve takes a point without an order (R26). -/
theorem settle_point_resting {u : Pru} {r : RefPoint} (h : Quiet s) (hlock : u.lock = .unlocked → s.pru.lock = .unlocked)
    (hf : isFiring s.ctl.state = false) : (settle (endTestRun (afterPru (u, some r) s))).cal = s.cal := by
  have hrest : ∀ m : State, m.ctl.state = s.ctl.state → RunLeft 1 m := by
    intro m hm hc
    rw [hm] at hc
    rw [hc] at hf
    cases hf
  have hsame := settle_afterPru h hlock (hrest (afterPru (u, some r) s) (afterPru_state _ _))
  rw [hsame.cal]
  cases hr : isUsable r with
  | false => rw [afterPru_unusable hr]
  | true => rw [afterPru_usable hr, usablePoint_resting (s := { s with pru := u }) r hf]

theorem takeOrder_created (o : Order) (s : State) : (takeOrder o s).cal.created = s.cal.created + 1 := by
  obtain ⟨hcreated, -, -⟩ := fireStanding_account o.valve { s with cal := { s.cal with created := s.cal.created + 1 } }
  unfold takeOrder
  dsimp only
  split
  · rw [fireOrder_cal]
    exact hcreated
  · exact hcreated

/-- Two orders are made at a usable point in a firing state (R26, R34). -/
theorem settle_point_creates {u : Pru} {r : RefPoint} (h : Quiet s) (hlock : u.lock = .unlocked → s.pru.lock = .unlocked)
    (hf : isFiring s.ctl.state = true) (hr : isUsable r = true) :
    (settle (endTestRun (afterPru (u, some r) s))).cal.created = s.cal.created + 2 := by
  have hquiet : Quiet (endTestRun (afterPru (u, some r) s)) := (h.afterPru hlock).endTestRun
  rw [(settle_quiet hquiet).cal, endTestRun_cal_created, afterPru_usable hr,
    usablePoint_firing (s := { s with pru := u }) r hf]
  unfold makeOrders
  dsimp only
  rw [takeOrder_created, takeOrder_created]

/-! ### The crossing -/

theorem acceptCrossing_lock {ph : PhaseValues} {q : Prediction} {e : Int} {u : Pru} (h : u.lock ≠ .unlocked) :
    (acceptCrossing ph q e u).1.lock ≠ .unlocked :=
  (lockOnAccept_leaves (u := correctReference ph q e u) _ h).1

theorem isUsable_pointOf {u v : Pru} (h : u.lock ≠ .unlocked) : isUsable (pointOf u v) = true ↔ u.lock ≠ .acquiring := by
  rw [isUsable_iff]
  unfold pointOf
  cases hl : u.lock <;> simp_all

/-- Settles O37: the crossing's point is worked at its corrected reference where it is usable. -/
theorem crossingMakesTwoOrders : Obligations.CrossingMakesTwoOrders := by
  intro s lag q hb hq hl hw hquiet hrun e fNom period time
  rw [exec_crossing hb, crossingTaken_eq, pruCrossing_accepts s.store.setup.phase hl hq hw]
  have hheard : Quiet (frameEnded .measurement s) := hquiet.congr rfl rfl rfl rfl
  have hnot : (acceptCrossing s.store.setup.phase q e s.pru).1.lock = .unlocked →
      (frameEnded .measurement s).pru.lock = .unlocked := fun h => absurd h (acceptCrossing_lock hl)
  have husable : isUsable (acceptCrossing s.store.setup.phase q e s.pru).2 = true ↔ s.pru.lock ≠ .acquiring :=
    isUsable_pointOf hl
  have hunused : s.pru.lock = .acquiring → isUsable (acceptCrossing s.store.setup.phase q e s.pru).2 = false :=
    fun ha => Bool.eq_false_iff.mpr fun hu => husable.mp hu ha
  refine ⟨_, rfl, ?_, ?_, ?_, ?_⟩
  · rintro ⟨ha, hf⟩
    exact settle_point_creates hheard hnot hf (husable.mpr ha)
  · rintro (ha | hf)
    · exact (settle_point_unused hheard hnot (hunused ha) hrun).2
    · exact settle_point_resting hheard hnot hf
  · intro ha
    exact (settle_point_unused hheard hnot (hunused ha) hrun).1
  · intro ha hcal hgoes
    have hframe : ∀ t, PointWorked (frameEnded .measurement s) t s.now s.pru.k (s.pru.rn + 1) time period →
        PointWorked s t s.now s.pru.k (s.pru.rn + 1) time period := fun _ h => h
    exact hframe _ (settle_point_worked hheard hnot (husable.mpr ha) hcal hgoes)

end Sys2Proof.Machine


/-! PROOF. The grant of a stop source, and its stop demand (R101, R102, R104, R113, R117, R127, R128). -/

namespace Sys2Proof.Machine

variable {s t : State}

/-! ### A re-reading with nothing in action -/

/-- With nothing in action a re-reading puts a condition source where its condition says (R101). -/
theorem isPending_rereadOne_of_none (h : s.prot.inAction = []) (a b : Source) :
    isPending (rereadOne a s) b = if a = b then conditionHolds s b else isPending s b := by
  have hnot : ¬isInAction s a = true := by rw [isInAction, h]; simp
  unfold rereadOne
  rw [if_neg hnot, if_neg hnot]
  by_cases hab : a = b
  · subst hab
    cases hc : conditionHolds s a <;> simp
  · cases hc : conditionHolds s a <;> simp [hab]

theorem isPending_rereadConditions_of_none (h : s.prot.inAction = []) (b : Source) :
    isPending (rereadConditions s) b = if isEdgeSource b = true then isPending s b else conditionHolds s b := by
  have fold : ∀ (l : List Source) (u : State), u.prot.inAction = [] →
      isPending (l.foldl (fun s src => rereadOne src s) u) b =
        if b ∈ l then conditionHolds u b else isPending u b := by
    intro l
    induction l with
    | nil => exact fun u _ => rfl
    | cons a l ih =>
      intro u hu
      rw [List.foldl_cons, ih _ (rereadOne_of_none hu a).2, conditionHolds_rereadOne, isPending_rereadOne_of_none hu]
      by_cases hab : a = b
      · simp [hab]
      · by_cases hl : b ∈ l <;> simp [hl, hab, Ne.symm hab]
  rw [rereadConditions, fold _ s h]
  cases b <;> rfl

/-! ### A re-reading that ends nothing -/

/-- No source that its condition ends is in action (R101). -/
def NoneToClear (s : State) : Prop := ∀ b, isClearedSource b = true → isInAction s b = false

theorem NoneToClear.of_inAction (h : NoneToClear s) (hi : t.prot.inAction = s.prot.inAction) : NoneToClear t := by
  intro b hb
  rw [isInAction_congr hi]
  exact h b hb

/-- Without such a source a re-reading sends nothing. -/
theorem NoneToClear.rereadOne (h : NoneToClear s) (src : Source) :
    (rereadOne src s).port = s.port ∧ NoneToClear (rereadOne src s) := by
  unfold Machine.rereadOne
  split
  · split
    · exact ⟨rfl, h⟩
    · exact ⟨rfl, h.of_inAction rfl⟩
  · split
    · next ha =>
      rw [if_neg fun hc => Bool.false_ne_true ((h src hc).symm.trans ha)]
      exact ⟨rfl, h⟩
    · exact ⟨rfl, h.of_inAction rfl⟩

theorem NoneToClear.rereadConditions (h : NoneToClear s) :
    (rereadConditions s).port = s.port ∧ NoneToClear (rereadConditions s) := by
  obtain ⟨p1, h1⟩ := h.rereadOne .phaseLost
  obtain ⟨p2, h2⟩ := h1.rereadOne .linkLost
  obtain ⟨p3, h3⟩ := h2.rereadOne .measureStale
  obtain ⟨p4, h4⟩ := h3.rereadOne .levelDegraded
  obtain ⟨p5, h5⟩ := h4.rereadOne .orderStale
  exact ⟨p5.trans (p4.trans (p3.trans (p2.trans p1))), h5⟩

/-- A change of the converter state then sends its notice and no other record (R117). -/
theorem NoneToClear.changeState (h : NoneToClear s) (c : ConvState) (u : StateCause) (v : Option Valve)
    (hlen : s.port.outgoing.length < 32) :
    (changeState c u v s).port.outgoing = s.port.outgoing ++ [.noticeState s.ctl.state c u v s.now] := by
  have hquiet : NoneToClear (notifyState s.ctl.state c u v { s with ctl := { s.ctl with state := c } }) :=
    h.of_inAction (by rw [notifyState, notify_prot])
  unfold Machine.changeState
  dsimp only
  rw [hquiet.rereadConditions.1, notifyState, notify_outgoing]
  exact if_pos hlen

/-! ### The stop demand -/

/-- The state to which a stop demand leads (R127, R128). -/
def stopState (s : State) : State :=
  match s.ctl.state with
  | .running =>
    match s.store.setup.role with
    | .inverter => inConvState .bypass (bypassFired s)
    | .rectifier => if s.store.setup.guard.retardTime = 0 then blockedState (retardState s) else retardState s
  | .precheck => blockedState s
  | .testing => blockedState s
  | .testHeld => blockedState s
  | _ => s

theorem enterRetard_same (u : StateCause) (s : State) :
    SameButResolver (if s.store.setup.guard.retardTime = 0 then blockedState (retardState s) else retardState s)
      (enterRetard u s) := by
  obtain ⟨hd, h⟩ | ⟨hd, h⟩ := enterRetard_cases u s
  · rwa [if_neg hd]
  · rwa [if_pos hd]

theorem stopDemand_same (src : Source) (s : State) : SameButResolver (stopState s) (stopDemand src s) := by
  unfold stopState stopDemand
  cases s.ctl.state with
  | running =>
    cases s.store.setup.role with
    | inverter => exact enterBypass_same _ s
    | rectifier => exact enterRetard_same _ s
  | precheck => exact enterBlocked_same _ _ s
  | testing => exact enterBlocked_same _ _ s
  | testHeld => exact enterBlocked_same _ _ s
  | bypass => exact .refl _
  | retard => exact .refl _
  | blocked => exact .refl _
  | unconfigured => exact .refl _

/-- A stop demand leads to the state that R127 and R128 name. -/
theorem stopState_state (src : Source) (s : State) (time : Nat) :
    (stopState s).ctl.state = (stopChange s src time).1 := by
  unfold stopState stopChange
  cases hc : s.ctl.state <;> try rfl
  case running =>
    cases s.store.setup.role with
    | inverter => rfl
    | rectifier =>
      dsimp only
      split <;> rfl
  all_goals exact hc

/-- No further stop demand moves the converter. -/
theorem stopState_unmoved (s : State) : Unmoved (stopState s).ctl.state := by
  rw [stopState_state .valveTrip s 0]
  unfold stopChange Unmoved
  cases s.ctl.state <;> simp
  cases s.store.setup.role <;> simp
  split <;> simp

theorem enterBypass_sends (u : StateCause) (h : s.port.outgoing.length < 32) :
    (s.port.outgoing ++ [.noticeState s.ctl.state .bypass u none s.now]) <+: (enterBypass u s).port.outgoing := by
  simp only [enterBypass]
  refine changeState_sends_from .bypass u none ?_ ?_ ?_ h
  · rw [bypassFirings_port]
    rfl
  · rw [bypassFirings_ctl_state]
    rfl
  · rw [bypassFirings_now]
    rfl

/-- The retard timer started, before the state changes (R128). -/
def retardArmed (s : State) : State :=
  { s with ctl := { s.ctl with retardTimer := some (s.now + msTicks s.store.setup.guard.retardTime) } }

theorem enterRetard_eq (u : StateCause) (s : State) : enterRetard u s =
    if msTicks s.store.setup.guard.retardTime = 0 then
      enterBlocked .retardEnd none (changeState .retard u none (retardArmed s))
    else changeState .retard u none (retardArmed s) := rfl

/-- Through RETARD to BLOCKED both notices go out, the first change's first (R128, log 18). -/
theorem enterRetard_sends (u : StateCause) (hrun : s.ctl.state = .running) (hclear : NoneToClear s)
    (h : s.port.outgoing.length < 31) :
    (s.port.outgoing ++ if s.store.setup.guard.retardTime = 0 then
        [.noticeState .running .retard u none s.now, .noticeState .retard .blocked .retardEnd none s.now]
      else [.noticeState .running .retard u none s.now]) <+: (enterRetard u s).port.outgoing := by
  have hclear' : NoneToClear (retardArmed s) := hclear
  have hfirst : (changeState .retard u none (retardArmed s)).port.outgoing =
      s.port.outgoing ++ [.noticeState .running .retard u none s.now] := by
    rw [hclear'.changeState .retard u none (by change s.port.outgoing.length < 32; omega)]
    exact congrArg (fun c => s.port.outgoing ++ [OutRecord.noticeState c .retard u none s.now]) hrun
  have hroom : (changeState .retard u none (retardArmed s)).port.outgoing.length < 32 := by
    rw [hfirst, List.length_append, List.length_singleton]
    omega
  have hdur : msTicks s.store.setup.guard.retardTime = 0 ↔ s.store.setup.guard.retardTime = 0 := by
    simp [msTicks, Config.ticksPerMs]
  rw [enterRetard_eq]
  by_cases hd : s.store.setup.guard.retardTime = 0
  · rw [if_pos hd, if_pos (hdur.mpr hd)]
    have hsecond := enterBlocked_sends (s := changeState .retard u none (retardArmed s)) .retardEnd none hroom
    rw [hfirst, changeState_state, changeState_now, List.append_assoc] at hsecond
    exact hsecond
  · rw [if_neg hd, if_neg (mt hdur.mp hd), hfirst]

/-- The notices of a stop demand go out in their order (R117, R127, R128). -/
theorem stopDemand_sends (src : Source) (hclear : NoneToClear s) (h : s.port.outgoing.length < 31) :
    (s.port.outgoing ++ (stopChange s src s.now).2) <+: (stopDemand src s).port.outgoing := by
  have hroom : s.port.outgoing.length < 32 := by omega
  unfold stopChange stopDemand
  cases hc : s.ctl.state with
  | running =>
    cases hr : s.store.setup.role with
    | inverter => simpa [hc] using enterBypass_sends (.source src) hroom
    | rectifier =>
      have hsend := enterRetard_sends (.source src) hc hclear h
      dsimp only at hsend ⊢
      split <;> simp_all
  | precheck => simpa [hc] using enterBlocked_sends (.source src) none hroom
  | testing => simpa [hc] using enterBlocked_sends (.source src) none hroom
  | testHeld => simpa [hc] using enterBlocked_sends (.source src) none hroom
  | bypass => simp
  | retard => simp
  | blocked => simp
  | unconfigured => simp

end Sys2Proof.Machine


/-! PROOF. The stop of a granted source whole, and the expiry of the link and order timers (R168, R169). -/

namespace Sys2Proof.Machine

variable {s t m : State}

/-! ### What a stop demand leaves -/

theorem stopState_retardTimer (hc : s.ctl.state = .running) (ht : (stopState s).ctl.state = .retard) :
    (stopState s).ctl.retardTimer = some (s.now + s.store.setup.guard.retardTime * 10000) := by
  unfold stopState at ht ⊢
  rw [hc] at ht ⊢
  cases hr : s.store.setup.role with
  | inverter =>
    rw [hr] at ht
    cases ht
  | rectifier =>
    rw [hr] at ht
    dsimp only at ht ⊢
    split at ht
    · cases ht
    · next hd =>
      rw [if_neg hd]
      rfl

/-- A stop demand that leads a guarded state to BLOCKED enters it as R125 states. -/
theorem stopState_blocked (hg : isGuarded s.ctl.state = true) (ht : (stopState s).ctl.state = .blocked) :
    ∃ u, stopState s = blockedState u := by
  unfold stopState at ht ⊢
  cases hc : s.ctl.state with
  | running =>
    rw [hc] at ht
    cases hr : s.store.setup.role with
    | inverter =>
      rw [hr] at ht
      cases ht
    | rectifier =>
      rw [hr] at ht
      dsimp only at ht ⊢
      split at ht
      · next hd => exact ⟨_, if_pos hd⟩
      · cases ht
  | precheck => exact ⟨_, rfl⟩
  | testing => exact ⟨_, rfl⟩
  | testHeld => exact ⟨_, rfl⟩
  | bypass =>
    rw [hc] at ht
    dsimp only at ht
    rw [hc] at ht
    cases ht
  | retard =>
    rw [hc] at ht
    dsimp only at ht
    rw [hc] at ht
    cases ht
  | blocked =>
    rw [hc] at hg
    cases hg
  | unconfigured =>
    rw [hc] at hg
    cases hg

/-- The BYPASS firings leave the count of a test run (R130). -/
theorem bypassFired_remaining (s : State) : (bypassFired s).ctl.remaining = s.ctl.remaining := by
  have hfire : ∀ (u : State) (v : Valve), (fireBypass u v).ctl.remaining = u.ctl.remaining :=
    fun u v => fireOrder_ctl_of_not_counted (by rintro ⟨hk, -⟩; cases hk)
  rw [bypassFired_eq]
  simp only [List.foldl_cons, List.foldl_nil, hfire]
  rfl

/-- A stop demand leaves the test run's flag and count (R127). -/
theorem stopState_test (s : State) :
    (stopState s).ctl.testDone = s.ctl.testDone ∧ (stopState s).ctl.remaining = s.ctl.remaining := by
  unfold stopState
  cases s.ctl.state with
  | running =>
    cases s.store.setup.role with
    | inverter => exact ⟨bypassFirings_ctl_testDone .., bypassFired_remaining s⟩
    | rectifier =>
      dsimp only
      split <;> exact ⟨rfl, rfl⟩
  | _ => exact ⟨rfl, rfl⟩

/-! ### The grant of a stop source -/

/-- A stop source is one whose grant asks for a stop (R104). -/
def IsStop (src : Source) : Prop := sourceAction src = .trip ∨ sourceAction src = .stop

/-- The grant of a stop source moves it into action, with the trip line for VALVE_TRIP, and then acts on the converter. -/
theorem grantOne_stop {src : Source} (h : IsStop src) (s : State) :
    ∃ u, grantOne src s = stopDemand src u ∧ SameButResolver s u ∧ u.port = (moveToAction src s).port ∧
      u.prot.inAction = (moveToAction src s).prot.inAction := by
  unfold grantOne startAction
  obtain ht | ht := h
  · rw [ht]
    exact ⟨_, rfl, moveToAction_same src s, rfl, rfl⟩
  · rw [ht]
    exact ⟨_, rfl, moveToAction_same src s, rfl, rfl⟩

theorem IsStop.lasts {src : Source} (h : IsStop src) : CloseKept fun s => isInAction s src = true := by
  refine inAction_close ?_ fun g => ?_ <;> cases src <;> simp_all [IsStop, sourceAction, isClearedSource, actionDuration]

theorem settle_of_next {src : Source} (h : nextGrant (rereadConditions s) = some src) :
    settle s = grantLoop 31 (grantOne src (rereadConditions s)) := by
  unfold settle
  rw [show (32 : Nat) = 31 + 1 from rfl, grantLoop, h]

/-- With nothing in action a stop source that the re-reading leaves as the highest pending is granted, and its demand is acted
on before any other grant (R102, R104, R113). -/
theorem settle_stop {src : Source} (h : IsStop src) (hi : m.prot.inAction = [])
    (hnext : nextGrant (rereadConditions m) = some src) :
    ∃ u, SameButResolver m u ∧ SameButResolver (stopState u) (settle m) ∧ isInAction (settle m) src = true ∧
      (m.port.outgoing.length ≤ 29 →
        (m.port.outgoing ++ .noticeGrant src (sourceAction src) m.now :: (stopChange u src m.now).2) <+:
          (settle m).port.outgoing) := by
  obtain ⟨hport, hnone⟩ := rereadConditions_of_none hi
  obtain ⟨u, hgrant, hsame, hsent, hacts⟩ := grantOne_stop h (rereadConditions m)
  have hin : u.prot.inAction = [⟨src, (rereadConditions m).now⟩] := by
    rw [hacts, moveToAction_prot, hnone]
    rfl
  have hinu : isInAction u src = true := by
    rw [isInAction, hin]
    simp
  have hclear : NoneToClear u := by
    intro b hb
    have hne : ¬src = b := by
      rintro rfl
      cases src <;> simp_all [IsStop, sourceAction, isClearedSource]
    rw [isInAction, hin]
    simp [hne]
  have hstop := stopDemand_same src u
  have hunmoved : Unmoved (stopDemand src u).ctl.state := by
    rw [hstop.ctl]
    exact stopState_unmoved u
  rw [settle_of_next hnext, hgrant]
  refine ⟨u, (rereadConditions_same m).trans hsame, hstop.trans (grantLoop_same 31 _ hunmoved),
    h.lasts.grantLoop 31 _ (h.lasts.stopDemand hinu src), fun hlen => ?_⟩
  have hout : u.port.outgoing = m.port.outgoing ++ [.noticeGrant src (sourceAction src) m.now] := by
    rw [hsent, moveToAction_outgoing (by rw [hport]; omega), hport, rereadConditions_now]
  have hnow : u.now = m.now := by rw [hsame.now, rereadConditions_now]
  have hsend := stopDemand_sends src hclear (by rw [hout, List.length_append, List.length_singleton]; omega)
  rw [hout, hnow, List.append_assoc] at hsend
  exact hsend.trans (grantLoop_grows 31 _).1

/-- The stop of a source that nothing in action holds back, as R104, R113, R117, R125, R127 and R128 state it. -/
theorem settle_stopTaken {src : Source} (h : IsStop src) (hi : m.prot.inAction = [])
    (hnext : nextGrant (rereadConditions m) = some src) : StopTaken m (settle m) src m.now := by
  obtain ⟨u, hsame, hstop, hin, hsends⟩ := settle_stop h hi hnext
  have hchange : stopChange u src m.now = stopChange m src m.now := by
    unfold stopChange
    rw [hsame.ctl, hsame.store]
  refine ⟨hin, ?_, ?_, fun hc ht => ?_, fun hg ht => ?_⟩
  · rw [hstop.ctl, stopState_state src u m.now, hchange]
  · rw [← hchange]
    exact hsends
  · rw [hstop.ctl] at ht ⊢
    rw [stopState_retardTimer (by rw [hsame.ctl]; exact hc) ht, hsame.now, hsame.store]
  · obtain ⟨x, hx⟩ := stopState_blocked (s := u) (by rw [hsame.ctl]; exact hg) (by rw [← hstop.ctl]; exact ht)
    rw [hx] at hstop
    rw [hstop.ctl, hstop.cal, hstop.acu, hstop.gens]
    exact ⟨rfl, fun v => Vector.getElem_replicate _, rfl, rfl, rfl, rfl⟩

/-- The stop reads the converter state, the store and the outgoing list. -/
theorem StopTaken.congr {src : Source} {time : Nat} (h : StopTaken m t src time) (hc : m.ctl.state = s.ctl.state)
    (hs : m.store = s.store) (ho : m.port.outgoing = s.port.outgoing) : StopTaken s t src time := by
  unfold StopTaken stopChange at *
  rw [hc, hs, ho] at h
  exact h

/-! ### The timers of the link -/

/-- A link that has just fallen silent in a guarded state is granted LINK_LOST next (R101, R102, R168). -/
theorem nextGrant_linkLost (hg : isGuarded s.ctl.state = true) (hcalm : Calm s) (hi : s.prot.inAction = [])
    (hm : hasSource s.prot.masks .linkLost = false) : nextGrant (rereadConditions (silenceLink s)) = some .linkLost := by
  obtain ⟨hvalve, -, -, hphase, -⟩ := hcalm
  have hnone : (silenceLink s).prot.inAction = [] := hi
  refine nextGrant_of_highest (rereadConditions_of_none hnone).2 ?_ ?_ fun b hb hp => ?_
  · rw [isPending_rereadConditions_of_none hnone]
    exact hg
  · rw [rereadConditions_masks]
    exact hm
  · rw [isPending_rereadConditions_of_none hnone] at hp
    cases b with
    | valveTrip => exact absurd (hvalve.symm.trans hp) Bool.false_ne_true
    | phaseLost => exact absurd (hphase.symm.trans hp) Bool.false_ne_true
    | _ => simp [sourceNumber] at hb

/-- Settles O52: the link timer's expiry with the stop that it can call for, and the order timer's. -/
theorem linkAndOrderTimersExpire : Obligations.LinkAndOrderTimersExpire := by
  intro s e hreach
  refine ⟨fun htimer => ?_, fun htimer hq => ?_⟩
  · have hexec : exec .linkTimerExpiry s = .next (settle (silenceLink (atTime e s))) := by
      rw [exec, execLinkTimerExpiry, htimer, onExpiry_taken hreach]
    refine ⟨fun hun => completes_of hexec rfl (.inr hun), fun hg hcalm hi hm => ⟨_, hexec, ?_⟩⟩
    have hnext : nextGrant (rereadConditions (silenceLink (atTime e s))) = some .linkLost :=
      nextGrant_linkLost (s := atTime e s) hg hcalm hi hm
    obtain ⟨u, hsame, hstop, -, -⟩ := settle_stop (m := silenceLink (atTime e s)) (.inr rfl) hi hnext
    have htaken := settle_stopTaken (m := silenceLink (atTime e s)) (.inr rfl) hi hnext
    obtain ⟨hdone, hremaining⟩ := stopState_test u
    refine ⟨by rw [settle_port_linkSilent]; rfl, by rw [settle_port_linkTimer]; rfl, htaken.congr rfl rfl rfl, ?_, ?_, ?_⟩
    · rw [hstop.ctl, hdone, hsame.ctl]
      rfl
    · rw [hstop.ctl, hremaining, hsame.ctl]
      rfl
    · intro hc hr hd
      have hretard : stopState u = retardState u := by
        have huc : u.ctl.state = .running := by rw [hsame.ctl]; exact hc
        have hur : u.store.setup.role = .rectifier := by rw [hsame.store]; exact hr
        have hud : ¬u.store.setup.guard.retardTime = 0 := by
          rw [hsame.store]
          exact Nat.one_le_iff_ne_zero.mp hd
        unfold stopState
        rw [huc, hur]
        exact if_neg hud
      rw [hstop.cal, hretard]
      exact hsame.cal
  · have hexec : exec .orderTimerExpiry s = .next (settle (expireOrder (atTime e s))) := by
      rw [exec, execOrderTimerExpiry, htimer, onExpiry_taken hreach]
    exact completes_of hexec rfl (hq.congr rfl rfl rfl rfl)

end Sys2Proof.Machine


/-! PROOF. The armed expiry (R8, R13 to R16, R101). -/

namespace Sys2Proof.Machine

variable {s t : State}

/-! ### The PRU at an expiry -/

theorem takeExpiry_pru (ph : PhaseValues) (q : Prediction) (u : Pru) : (takeExpiry ph q u).1 =
    predictIfLocked ph.w (lockOnExpiry ph.holdoverLimit
      { u with tRef := q.tPred, k := (u.k + 1) % 6, rn := u.rn + 1 }) := rfl

theorem takeExpiry_point (ph : PhaseValues) (q : Prediction) (u : Pru) : (takeExpiry ph q u).2 =
    ⟨u.k, u.rn + 1, q.tPred, u.p, u.lock⟩ := rfl

/-- The PRU of a flywheel point that leaves it out of UNLOCKED, by its lock state and counts (R4, R8). -/
def flywheelPru (ph : PhaseValues) (q : Prediction) (u : Pru) (lock : LockState) (good flywheel holdover : Nat) : Pru :=
  ⟨lock, u.p, q.tPred, (u.k + 1) % 6, u.rn + 1,
    some ⟨q.tPred + (u.p + 3) / 6, ph.w, if lock = .acquiring then 4 * ph.w else ph.w⟩, good, flywheel, holdover,
    u.distorted⟩

/-- The PRU of a flywheel point that brings it to UNLOCKED (R16). -/
def fallenPru (q : Prediction) (u : Pru) : Pru := ⟨.unlocked, u.p, q.tPred, 0, u.rn + 1, none, 0, 0, 0, u.distorted⟩

/-! The six ends of an expiry, by the lock state and its counts (R13 to R16). -/

theorem takeExpiry_acquiring {ph : PhaseValues} {q : Prediction} {u : Pru} (hl : u.lock = .acquiring)
    (hf : u.flywheel < 5) :
    (takeExpiry ph q u).1 = flywheelPru ph q u .acquiring 0 (u.flywheel + 1) u.holdover := by
  have hmore : ¬6 ≤ u.flywheel + 1 := by omega
  rw [takeExpiry_pru, lockOnExpiry, hl]
  simp only [if_neg hmore]
  rfl

theorem takeExpiry_acquiring_falls {ph : PhaseValues} {q : Prediction} {u : Pru} (hl : u.lock = .acquiring)
    (hf : u.flywheel = 5) : (takeExpiry ph q u).1 = fallenPru q u := by
  have hsix : 6 ≤ u.flywheel + 1 := by omega
  rw [takeExpiry_pru, lockOnExpiry, hl]
  simp only [if_pos hsix]
  rfl

theorem takeExpiry_locked {ph : PhaseValues} {q : Prediction} {u : Pru} (hl : u.lock = .locked) (hf : u.flywheel < 2) :
    (takeExpiry ph q u).1 = flywheelPru ph q u .locked u.good (u.flywheel + 1) u.holdover := by
  have hmore : ¬3 ≤ u.flywheel + 1 := by omega
  rw [takeExpiry_pru, lockOnExpiry, hl]
  simp only [if_neg hmore]
  rfl

theorem takeExpiry_locked_holds {ph : PhaseValues} {q : Prediction} {u : Pru} (hl : u.lock = .locked)
    (hf : 2 ≤ u.flywheel) :
    (takeExpiry ph q u).1 = flywheelPru ph q u .holdover 0 (u.flywheel + 1) 3 := by
  have hthree : 3 ≤ u.flywheel + 1 := by omega
  rw [takeExpiry_pru, lockOnExpiry, hl]
  simp only [if_pos hthree]
  rfl

theorem takeExpiry_holdover {ph : PhaseValues} {q : Prediction} {u : Pru} (hl : u.lock = .holdover)
    (hh : u.holdover + 1 < ph.holdoverLimit) :
    (takeExpiry ph q u).1 = flywheelPru ph q u .holdover 0 u.flywheel (u.holdover + 1) := by
  have hmore : ¬ph.holdoverLimit ≤ u.holdover + 1 := by omega
  rw [takeExpiry_pru, lockOnExpiry, hl]
  simp only [if_neg hmore]
  rfl

theorem takeExpiry_holdover_falls {ph : PhaseValues} {q : Prediction} {u : Pru} (hl : u.lock = .holdover)
    (hh : ph.holdoverLimit ≤ u.holdover + 1) : (takeExpiry ph q u).1 = fallenPru q u := by
  rw [takeExpiry_pru, lockOnExpiry, hl]
  simp only [if_pos hh]
  rfl

/-! ### The event whole -/

theorem exec_armedExpiry {q : Prediction} (hq : s.pru.pred = some q) (h : canReach (q.tPred + q.wEff) s = true) :
    exec .armedExpiry s = .next (settle (endTestRun (afterPru
      ((takeExpiry s.store.setup.phase q s.pru).1, some (takeExpiry s.store.setup.phase q s.pru).2)
      (atTime (q.tPred + q.wEff) s)))) := by
  have harmed : armedExpiry s.pru = some (q.tPred + q.wEff) := by rw [armedExpiry, hq]; rfl
  have htake : takeArmedExpiry (atTime (q.tPred + q.wEff) s) = afterPru
      ((takeExpiry s.store.setup.phase q s.pru).1, some (takeExpiry s.store.setup.phase q s.pru).2)
      (atTime (q.tPred + q.wEff) s) := by
    unfold takeArmedExpiry
    rw [show (atTime (q.tPred + q.wEff) s).pru.pred = some q from hq]
    rfl
  rw [exec, execArmedExpiry, harmed, onExpiry_taken h, htake]

/-- A fall to UNLOCKED in a guarded state with nothing in action is granted PHASE_LOST next (R101, R102). -/
theorem nextGrant_phaseLost (hlock : s.pru.lock = .unlocked) (hg : isGuarded s.ctl.state = true)
    (hi : s.prot.inAction = []) (hv : isPending s .valveTrip = false) (hm : hasSource s.prot.masks .phaseLost = false) :
    nextGrant (rereadConditions s) = some .phaseLost := by
  refine nextGrant_of_highest (rereadConditions_of_none hi).2 ?_ ?_ fun b hb hp => ?_
  · rw [isPending_rereadConditions_of_none hi, if_neg (by decide), conditionHolds, hlock, hg]
    rfl
  · rw [rereadConditions_masks]
    exact hm
  · rw [isPending_rereadConditions_of_none hi] at hp
    cases b with
    | valveTrip => exact absurd (hv.symm.trans hp) Bool.false_ne_true
    | _ => simp [sourceNumber] at hb

/-- The point of a fall to UNLOCKED, and the stop that the fall calls for (R16, R101, R127, log 14). -/
theorem settle_fall_stops {u : Pru} {r : RefPoint} (hlock : u.lock = .unlocked) (hg : isGuarded s.ctl.state = true)
    (hi : s.prot.inAction = []) (hv : isPending s .valveTrip = false) (hm : hasSource s.prot.masks .phaseLost = false) :
    let t := settle (endTestRun (afterPru (u, some r) s))
    (RunGoesOn s → StopTaken s t .phaseLost s.now) ∧ (s.ctl.state = .testing → t.ctl.state = .blocked) := by
  have hprot := afterPru_prot (u, some r) s
  have hnext : nextGrant (rereadConditions (afterPru (u, some r) s)) = some .phaseLost := by
    refine nextGrant_phaseLost ?_ ?_ ?_ ?_ ?_
    · rw [afterPru_pru]
      exact hlock
    · rw [afterPru_state]
      exact hg
    · rw [hprot]
      exact hi
    · rw [isPending, hprot]
      exact hv
    · rw [hprot]
      exact hm
  have htaken : StopTaken s (settle (afterPru (u, some r) s)) .phaseLost s.now := by
    have h := settle_stopTaken (m := afterPru (u, some r) s) (.inr rfl) (by rw [hprot]; exact hi) hnext
    rw [afterPru_now] at h
    exact h.congr (afterPru_state _ _) (afterPru_store _ _) (by rw [afterPru_port])
  refine ⟨fun hrun => ?_, fun hc => ?_⟩
  · rw [endTestRun_of_runLeft (afterPru_runLeft hrun)]
    exact htaken
  · obtain ⟨-, he⟩ | ⟨-, -, -, hsame⟩ := endTestRun_cases (afterPru (u, some r) s)
    · rw [he]
      obtain ⟨-, hstate, -⟩ := htaken
      rw [hstate, stopChange, hc]
    · have hblocked : (endTestRun (afterPru (u, some r) s)).ctl.state = .blocked := by
        rw [hsame.ctl]
        rfl
      rw [(settle_same _ (.inr (.inr (.inl hblocked)))).ctl, hblocked]

/-- Settles O38: the PRU by its lock state and counts, the point's work, and the stop that a fall to UNLOCKED calls for. -/
theorem armedExpiryFlywheels : Obligations.ArmedExpiryFlywheels := by
  intro s q hq hreach ph next after fallen
  have hpru : ∀ t, t = settle (endTestRun (afterPru
      ((takeExpiry ph q s.pru).1, some (takeExpiry ph q s.pru).2) (atTime (q.tPred + q.wEff) s))) →
      t.pru = (takeExpiry ph q s.pru).1 := by
    rintro t rfl
    rw [settle_pru, endTestRun_pru, afterPru_pru]
  refine ⟨_, exec_armedExpiry hq hreach, ?_, by simp, by simp, by simp, by simp [afterPru_port], ?_, ?_, ?_, ?_, ?_, ?_, ?_⟩
  · rw [settle_now, endTestRun_now, afterPru_now]
    rfl
  · intro v
    exact (settle_endTestRun_levels _ v).trans (afterPru_levels _ _ v.val v.isLt)
  · intro hl
    rw [hpru _ rfl]
    exact ⟨takeExpiry_acquiring hl, takeExpiry_acquiring_falls hl⟩
  · intro hl
    rw [hpru _ rfl]
    refine ⟨takeExpiry_locked hl, fun hf => ?_⟩
    rw [takeExpiry_locked_holds hl (by omega), hf]
    rfl
  · intro hl
    rw [hpru _ rfl]
    exact ⟨takeExpiry_holdover hl, takeExpiry_holdover_falls hl⟩
  · intro hquiet hcal hrun hl
    have hlock : (takeExpiry ph q s.pru).1.lock ≠ .unlocked := by
      obtain hl | ⟨hl, hh⟩ := hl
      · by_cases hf : s.pru.flywheel < 2
        · rw [takeExpiry_locked hl hf]
          simp [flywheelPru]
        · rw [takeExpiry_locked_holds hl (by omega)]
          simp [flywheelPru]
      · rw [takeExpiry_holdover hl hh]
        simp [flywheelPru]
    have husable : isUsable (takeExpiry ph q s.pru).2 = true := by
      rw [isUsable_iff, takeExpiry_point]
      exact hl.imp id And.left
    have hframe : ∀ t, PointWorked (atTime (q.tPred + q.wEff) s) t (max s.now (q.tPred + q.wEff)) s.pru.k (s.pru.rn + 1)
        q.tPred s.pru.p → PointWorked s t (max s.now (q.tPred + q.wEff)) s.pru.k (s.pru.rn + 1) q.tPred s.pru.p :=
      fun _ h => h
    exact hframe _ (settle_point_worked (s := atTime (q.tPred + q.wEff) s) (hquiet.congr rfl rfl rfl rfl)
      (fun h => absurd h hlock) husable hcal hrun)
  · intro hquiet hl hf hrun
    have hunused : isUsable (takeExpiry ph q s.pru).2 = false := by
      rw [takeExpiry_point, hl]
      rfl
    have hlock : (takeExpiry ph q s.pru).1.lock ≠ .unlocked := by
      rw [takeExpiry_acquiring hl hf]
      simp [flywheelPru]
    exact settle_point_unused (s := atTime (q.tPred + q.wEff) s) (hquiet.congr rfl rfl rfl rfl)
      (fun h => absurd h hlock) hunused hrun
  · intro hfall hg hi hv hm
    have hlock : (takeExpiry ph q s.pru).1.lock = .unlocked := by
      obtain ⟨hl, hf⟩ | ⟨hl, hh⟩ := hfall
      · rw [takeExpiry_acquiring_falls hl hf]
        rfl
      · rw [takeExpiry_holdover_falls hl hh]
        rfl
    obtain ⟨hstop, htest⟩ := settle_fall_stops (s := atTime (q.tPred + q.wEff) s) hlock hg hi hv hm
      (r := (takeExpiry ph q s.pru).2)
    exact ⟨fun hrun => (hstop hrun).congr rfl rfl rfl, htest⟩

end Sys2Proof.Machine


/-! PROOF. A no-voltage record and the CF run (R81, R82, R100, R110). -/

namespace Sys2Proof.Machine

variable {s t : State}

/-! ### An accepted record -/

theorem acceptsReturn_iff {line : Valve} {r : ReturnRecord} : acceptsReturn line r s = true ↔
    r.valve = valveNumber line ∧ r.window = s.monitors[line].window ∧ s.monitors[line].accepted = false ∧
      (r.window ≠ 0 ∨ s.ctl.state = .precheck) := by
  unfold acceptsReturn
  simp only [Bool.and_eq_true, Bool.or_eq_true, decide_eq_true_iff, Bool.not_eq_true', and_assoc]

theorem exec_returnRecord {line : Valve} {r : ReturnRecord} (hb : betweenFrames (.ret line) s = true) :
    exec (.returnRecord line r) s = .next (if acceptsReturn line r s = true then
      settle (processReturn line r (frameEnded (.ret line) s)) else frameEnded (.ret line) s) :=
  congrArg Host.Outcome.next (arrive_between hb _ _)

/-- The accepted record has been marked (R80 step 1). -/
theorem markAccepted_monitor (v : Valve) (s : State) : (markAccepted v s).monitors[v] =
    { s.monitors[v] with accepted := true, missingRun := 0, lost := false } :=
  Vector.getElem_set_self v.isLt

theorem markAccepted_monitor_ne {v w : Valve} (h : w ≠ v) (s : State) :
    (markAccepted v s).monitors[w] = s.monitors[w] :=
  Vector.getElem_set_ne v.isLt w.isLt fun hv => h (Fin.ext hv.symm)

/-- The commutation test of an armed valve in RUNNING at the inverter raises a failure for a no-voltage record (R82). -/
theorem testCommutation_fails {v : Valve} {r : ReturnRecord} (hw : r.window ≠ 0) (hc : s.ctl.state = .running)
    (harmed : s.monitors[v].armed = true) (hr : s.store.setup.role = .inverter) :
    testCommutation v r true s = raiseCommutationFail s := by
  unfold testCommutation
  have harm : ¬(!s.monitors[v].armed) = true := by
    rw [harmed]
    decide
  rw [if_pos (And.intro hw hc), if_neg harm]
  exact if_pos ⟨rfl, hr⟩

/-- Otherwise the test writes at most the valve's armed flag (R82). -/
theorem testCommutation_spares {v : Valve} {r : ReturnRecord} {nv : Bool}
    (h : nv = true → s.monitors[v].armed = true → s.store.setup.role ≠ .inverter) :
    testCommutation v r nv s = s ∨ testCommutation v r nv s = setMonitor v { s.monitors[v] with armed := true } s := by
  unfold testCommutation
  split
  · cases ha : s.monitors[v].armed with
    | false => exact .inr rfl
    | true =>
      have hno : ¬(nv = true ∧ s.store.setup.role = .inverter) := fun ⟨hn, hr⟩ => h hn ha hr
      refine .inl ?_
      rw [if_neg (by decide), if_neg hno]
  · exact .inl rfl

/-! ### The CF run -/

theorem raiseEdge_of_inAction {src : Source} (h : isInAction s src = true) :
    raiseEdge src s = { s with prot := { s.prot with repeats := putSource s.prot.repeats src true } } := if_pos h

theorem raiseEdge_of_not {src : Source} (h : isInAction s src = false) : raiseEdge src s = makePending src s :=
  if_neg (by rw [h]; decide)

theorem raiseEdge_run (src : Source) (s : State) : RunKept s.prot (raiseEdge src s) := by
  obtain ⟨-, h⟩ | ⟨-, h⟩ := raiseEdge_cases (s := s) src
  · rw [h]
    exact ⟨rfl, rfl, rfl⟩
  · rw [h]
    exact ⟨rfl, rfl, rfl⟩

/-- An edge stands as a pending source or one in action (R100). -/
theorem raiseEdge_standing (src : Source) (s : State) (hd : actionDuration s.store.setup.guard src ≠ some 0) :
    Standing src (raiseEdge src s) := by
  cases ha : isInAction s src with
  | true =>
    rw [raiseEdge_of_inAction ha]
    exact ⟨.inr ha, hd⟩
  | false =>
    rw [raiseEdge_of_not ha]
    exact ⟨.inl (by simp), hd⟩

theorem raiseCommutationFail_below (h : s.prot.cfRun + 1 < s.store.setup.guard.cfLimit) :
    raiseCommutationFail s = { raiseEdge .commutationFail s with
      prot := { (raiseEdge .commutationFail s).prot with
        cfRun := s.prot.cfRun + 1
        runWindow := some (s.now + s.store.setup.guard.cfWindow * 10000) } } := by
  obtain ⟨-, hrun, -⟩ := raiseEdge_run .commutationFail s
  have hlimit : ¬(raiseEdge .commutationFail s).store.setup.guard.cfLimit ≤ (raiseEdge .commutationFail s).prot.cfRun + 1 := by
    rw [hrun, raiseEdge_store]
    omega
  unfold raiseCommutationFail
  dsimp only
  rw [if_neg hlimit, hrun, raiseEdge_now, raiseEdge_store]
  rfl

theorem raiseCommutationFail_at (h : s.store.setup.guard.cfLimit ≤ s.prot.cfRun + 1) :
    raiseCommutationFail s = raiseEdge .valveTrip { raiseEdge .commutationFail s with
      prot := { (raiseEdge .commutationFail s).prot with cfRun := 0, runWindow := none } } := by
  obtain ⟨-, hrun, -⟩ := raiseEdge_run .commutationFail s
  have hlimit : (raiseEdge .commutationFail s).store.setup.guard.cfLimit ≤ (raiseEdge .commutationFail s).prot.cfRun + 1 := by
    rw [hrun, raiseEdge_store]
    exact h
  unfold raiseCommutationFail
  dsimp only
  rw [if_pos hlimit]

/-- A later edge leaves a standing source standing. -/
theorem Standing.raiseEdge {b : Source} (h : Standing b s) (src : Source) : Standing b (raiseEdge src s) := by
  cases hi : isInAction s src with
  | true =>
    rw [raiseEdge_of_inAction hi]
    exact h
  | false =>
    rw [raiseEdge_of_not hi]
    exact h.of_positions rfl (fun hp => .inl (by simp [hp])) (fun ha => .inr (by simpa using ha))

/-- A commutation failure counts in the CF run, or at cf_limit clears it and raises VALVE_TRIP (R110). -/
theorem settle_commutationFail (hd : actionDuration s.store.setup.guard .commutationFail ≠ some 0) :
    let t := settle (raiseCommutationFail s)
    (isPending t .commutationFail = true ∨ isInAction t .commutationFail = true) ∧
    (s.prot.cfRun + 1 < s.store.setup.guard.cfLimit → t.prot.cfRun = s.prot.cfRun + 1 ∧
      t.prot.runWindow = some (s.now + s.store.setup.guard.cfWindow * 10000)) ∧
    (s.store.setup.guard.cfLimit ≤ s.prot.cfRun + 1 → t.prot.cfRun = 0 ∧ t.prot.runWindow = none ∧
      (isPending t .valveTrip = true ∨ isInAction t .valveTrip = true)) := by
  have hedge := raiseEdge_standing .commutationFail s hd
  obtain ⟨-, hrun, hwindow⟩ := settle_run (raiseCommutationFail s)
  refine ⟨((standing_close rfl).settle ?_).1, fun h => ?_, fun h => ?_⟩
  · obtain h | h := Nat.lt_or_ge (s.prot.cfRun + 1) s.store.setup.guard.cfLimit
    · rw [raiseCommutationFail_below h]
      exact hedge.of_prot rfl rfl rfl
    · rw [raiseCommutationFail_at h]
      exact Standing.raiseEdge (s := { raiseEdge .commutationFail s with
        prot := { (raiseEdge .commutationFail s).prot with cfRun := 0, runWindow := none } })
        (hedge.of_prot rfl rfl rfl) .valveTrip
  · rw [hrun, hwindow, raiseCommutationFail_below h]
    exact ⟨rfl, rfl⟩
  · rw [hrun, hwindow, raiseCommutationFail_at h]
    obtain ⟨-, hcount, hstop⟩ := raiseEdge_run .valveTrip { Machine.raiseEdge .commutationFail s with
      prot := { (Machine.raiseEdge .commutationFail s).prot with cfRun := 0, runWindow := none } }
    exact ⟨hcount, hstop, ((standing_close rfl).settle (raiseEdge_standing .valveTrip _ nofun)).1⟩

/-- Settles O45: the record ends at its commutation test, which counts a failure of an armed valve at the inverter alone. -/
theorem commutationFailureCounts : Obligations.CommutationFailureCounts := by
  intro s line r hv hw ha h0 hc hrange hb hnv
  let marked := markAccepted line (frameEnded (.ret line) s)
  have hmonitor : marked.monitors[line] = { s.monitors[line] with accepted := true, missingRun := 0, lost := false } :=
    markAccepted_monitor line (frameEnded (.ret line) s)
  have hprocess : processReturn line r (frameEnded (.ret line) s) = testCommutation line r true marked := by
    have hno : noVoltage line r (frameEnded (.ret line) s) = true := hnv
    unfold processReturn
    dsimp only
    rw [hno, if_neg h0]
    rfl
  have hexec : exec (.returnRecord line r) s = .next (settle (testCommutation line r true marked)) := by
    rw [exec_returnRecord hb, if_pos (acceptsReturn_iff.mpr ⟨hv, hw, ha, .inl h0⟩), hprocess]
  have hspared : (s.monitors[line].armed = true → s.store.setup.role ≠ .inverter) →
      (settle (testCommutation line r true marked)).prot.cfRun = s.prot.cfRun ∧
        (settle (testCommutation line r true marked)).prot.runWindow = s.prot.runWindow := by
    intro hnot
    obtain ⟨-, hrun, hwindow⟩ := settle_run (testCommutation line r true marked)
    have harmed : marked.monitors[line].armed = true → marked.store.setup.role ≠ .inverter := by
      rw [hmonitor]
      exact hnot
    obtain he | he := testCommutation_spares (r := r) (nv := true) fun _ => harmed
    · rw [hrun, hwindow, he]
      exact ⟨rfl, rfl⟩
    · rw [hrun, hwindow, he]
      exact ⟨rfl, rfl⟩
  refine ⟨_, hexec, fun hn => hspared fun h => ?_, fun hr => hspared fun _ h => ?_, fun harmed hr => ?_⟩
  · exact absurd (hn.symm.trans h) Bool.false_ne_true
  · rw [hr] at h
    cases h
  · rw [testCommutation_fails (s := marked) h0 hc (by rw [hmonitor]; exact harmed) hr]
    exact settle_commutationFail (s := marked) (commutationFail_lasts hrange)

end Sys2Proof.Machine


/-! PROOF. An accepted RETURN record: what its steps make of the levels and of the Level Monitor (R80, R81, R83, R84). -/

namespace Sys2Proof.Machine

variable {s t : State}

/-! ### The counts and the classification of a record -/

theorem isPresent_succ (present : BitVec 120) (i : Nat) : isPresent present (i + 1) = present.getMsbD i := by
  rw [isPresent, decide_eq_true (Nat.le_add_left 1 i), Bool.true_and, Nat.add_sub_cancel]

/-- The live levels that a record names present, counted by position (R81). -/
theorem presentCount_eq (r : ReturnRecord) (levels : List LevelEntry) : presentCount r levels =
    (List.range levels.length).countP fun i =>
      (levels[i]?.any fun e => isLive e.state) && r.present.getMsbD i := by
  have hmap : (levels.mapIdx fun i e => isLive e.state && isPresent r.present (i + 1)) =
      (List.range levels.length).map fun i => (levels[i]?.any fun e => isLive e.state) && r.present.getMsbD i := by
    refine List.ext_getElem (by simp) fun i h1 h2 => ?_
    have hi : i < levels.length := by simpa using h1
    rw [List.getElem_mapIdx, List.getElem_map, List.getElem_range, List.getElem?_eq_getElem hi, isPresent_succ]
    rfl
  rw [presentCount, hmap, List.countP_map]
  rfl

theorem classifyLevels_length (lv : LevelValues) (now : Nat) (r : ReturnRecord) (levels : List LevelEntry) :
    (classifyLevels lv now r levels).length = levels.length := List.length_mapIdx

theorem classifyLevels_getElem? (lv : LevelValues) (now : Nat) (r : ReturnRecord) {levels : List LevelEntry} {i : Nat}
    {e : LevelEntry} (h : levels[i]? = some e) :
    (classifyLevels lv now r levels)[i]? = some (classifyLevel lv now r (i + 1) e) := by
  rw [classifyLevels, List.getElem?_mapIdx, h]
  rfl

/-- A level that is out is skipped (R83). -/
theorem classifyLevel_out {e : LevelEntry} (lv : LevelValues) (now : Nat) (r : ReturnRecord) (l : Nat)
    (h : isLive e.state = false) : classifyLevel lv now r l e = e := if_neg (by rw [h]; decide)

/-- A live level that fired protectively (R83, first row). -/
theorem classifyLevel_protective {e : LevelEntry} (lv : LevelValues) (now : Nat) (r : ReturnRecord) (l : Nat)
    (h : isLive e.state = true) (hp : l ∈ r.protective) :
    classifyLevel lv now r l e = changeLevel now (if lv.pfLimit ≤ e.pfRun + 1 then .failedNofire else .suspect)
      { e with missRun := 0, pfRun := e.pfRun + 1, pfTotal := min 65535 (e.pfTotal + 1) } := by
  unfold classifyLevel classifyLive
  rw [if_pos h, if_pos (List.contains_iff_mem.mpr hp)]
  rfl

/-- A live level that the record names present (R83, second row). -/
theorem classifyLevel_present {e : LevelEntry} (lv : LevelValues) (now : Nat) (r : ReturnRecord) (i : Nat)
    (h : isLive e.state = true) (hp : i + 1 ∉ r.protective) (hm : r.present.getMsbD i = true) :
    classifyLevel lv now r (i + 1) e = changeLevel now .healthy { e with missRun := 0, pfRun := 0 } := by
  unfold classifyLevel classifyLive
  rw [if_pos h, if_neg (mt List.contains_iff_mem.mp hp), isPresent_succ, if_pos hm]

/-- A live level that the record does not name (R83, third row). -/
theorem classifyLevel_missing {e : LevelEntry} (lv : LevelValues) (now : Nat) (r : ReturnRecord) (i : Nat)
    (h : isLive e.state = true) (hp : i + 1 ∉ r.protective) (hm : r.present.getMsbD i = false) :
    classifyLevel lv now r (i + 1) e = changeLevel now (if lv.missLimit ≤ e.missRun + 1 then .failedShort else .suspect)
      { e with missRun := e.missRun + 1 } := by
  unfold classifyLevel classifyLive
  rw [if_pos h, if_neg (mt List.contains_iff_mem.mp hp), isPresent_succ, if_neg (by rw [hm]; decide)]

/-! ### The steps before the probe answer -/

/-- `t` differs from `s` at most in the Level Monitor and the resolver. -/
def OnlyMonitored (s t : State) : Prop := t = { s with monitors := t.monitors, prot := t.prot }

theorem OnlyMonitored.trans {u : State} (h : OnlyMonitored s t) (k : OnlyMonitored t u) : OnlyMonitored s u := by
  unfold OnlyMonitored at *
  rw [k, h]

theorem OnlyMonitored.now (h : OnlyMonitored s t) : t.now = s.now := by
  rw [OnlyMonitored] at h
  rw [h]

theorem OnlyMonitored.ctl (h : OnlyMonitored s t) : t.ctl = s.ctl := by
  rw [OnlyMonitored] at h
  rw [h]

theorem OnlyMonitored.store (h : OnlyMonitored s t) : t.store = s.store := by
  rw [OnlyMonitored] at h
  rw [h]

theorem OnlyMonitored.port (h : OnlyMonitored s t) : t.port = s.port := by
  rw [OnlyMonitored] at h
  rw [h]

theorem OnlyMonitored.pru (h : OnlyMonitored s t) : t.pru = s.pru := by
  rw [OnlyMonitored] at h
  rw [h]

theorem OnlyMonitored.acu (h : OnlyMonitored s t) : t.acu = s.acu := by
  rw [OnlyMonitored] at h
  rw [h]

theorem OnlyMonitored.meas (h : OnlyMonitored s t) : t.meas = s.meas := by
  rw [OnlyMonitored] at h
  rw [h]

theorem OnlyMonitored.snapshot (h : OnlyMonitored s t) : t.snapshot = s.snapshot := by
  rw [OnlyMonitored] at h
  rw [h]

theorem monitor_congr (h : t.monitors = s.monitors) (v : Valve) : t.monitors[v] = s.monitors[v] := by rw [h]

theorem onlyMonitored_setMonitor (v : Valve) (m : ValveMonitor) (s : State) : OnlyMonitored s (setMonitor v m s) := rfl

theorem onlyMonitored_raiseEdge (src : Source) (s : State) : OnlyMonitored s (raiseEdge src s) := by
  cases h : isInAction s src with
  | true =>
    rw [raiseEdge_of_inAction h]
    rfl
  | false =>
    rw [raiseEdge_of_not h]
    rfl

theorem onlyMonitored_raiseCommutationFail (s : State) : OnlyMonitored s (raiseCommutationFail s) := by
  have hedge := onlyMonitored_raiseEdge .commutationFail s
  obtain h | h := Nat.lt_or_ge (s.prot.cfRun + 1) s.store.setup.guard.cfLimit
  · rw [raiseCommutationFail_below h]
    exact OnlyMonitored.trans (t := raiseEdge .commutationFail s) hedge rfl
  · rw [raiseCommutationFail_at h]
    exact OnlyMonitored.trans (t := { raiseEdge .commutationFail s with
      prot := { (raiseEdge .commutationFail s).prot with cfRun := 0, runWindow := none } })
      (OnlyMonitored.trans (t := raiseEdge .commutationFail s) hedge rfl) (onlyMonitored_raiseEdge .valveTrip _)

theorem onlyMonitored_testCommutation (v : Valve) (r : ReturnRecord) (nv : Bool) (s : State) :
    OnlyMonitored s (testCommutation v r nv s) := by
  unfold testCommutation
  split
  · split
    · exact onlyMonitored_setMonitor v _ s
    · split
      · exact onlyMonitored_raiseCommutationFail s
      · rfl
  · rfl

/-- The commutation test writes of the valves at most the valve's armed flag (R82). -/
theorem testCommutation_monitors (v : Valve) (r : ReturnRecord) (nv : Bool) (s : State) :
    ∃ a, (testCommutation v r nv s).monitors[v] = { s.monitors[v] with armed := a } ∧
      ∀ w : Valve, w ≠ v → (testCommutation v r nv s).monitors[w] = s.monitors[w] := by
  unfold testCommutation
  split
  · split
    · exact ⟨true, Vector.getElem_set_self v.isLt, fun w h =>
        Vector.getElem_set_ne v.isLt w.isLt fun hv => h (Fin.ext hv.symm)⟩
    · split
      · have hsame := (raiseCommutationFail_same s).monitors
        exact ⟨s.monitors[v].armed, monitor_congr hsame v, fun w _ => monitor_congr hsame w⟩
      · exact ⟨_, rfl, fun _ _ => rfl⟩
  · exact ⟨_, rfl, fun _ _ => rfl⟩

/-- The valve's levels as a record leaves them, short of the trip test (R83). -/
def classifiedState (v : Valve) (r : ReturnRecord) (s : State) : State :=
  setMonitor v { s.monitors[v] with
    levels := classifyLevels s.store.setup.levels s.now r s.monitors[v].levels } s

theorem classifiedState_monitor (v : Valve) (r : ReturnRecord) (s : State) : (classifiedState v r s).monitors[v] =
    { s.monitors[v] with levels := classifyLevels s.store.setup.levels s.now r s.monitors[v].levels } :=
  Vector.getElem_set_self v.isLt

theorem onlyMonitored_classifiedState (v : Valve) (r : ReturnRecord) (s : State) :
    OnlyMonitored s (classifiedState v r s) := onlyMonitored_setMonitor v _ s

theorem classifyValve_eq (v : Valve) (r : ReturnRecord) (s : State) : classifyValve v r s =
    if s.store.setup.levels.redundancy < failedCount (classifiedState v r s) v ∧
        failedCount s v < failedCount (classifiedState v r s) v then
      raiseEdge .valveTrip (classifiedState v r s)
    else classifiedState v r s := rfl

/-- Steps 1 to 4 of an accepted record (R80). -/
def judgedReturn (v : Valve) (r : ReturnRecord) (s : State) : State :=
  if noVoltage v r s = true then testCommutation v r true (markAccepted v s)
  else classifyValve v r (testCommutation v r false (markAccepted v s))

theorem processReturn_eq (v : Valve) (r : ReturnRecord) (s : State) : processReturn v r s =
    if r.window = 0 then probeAnswer v (noVoltage v r s) (judgedReturn v r s) else judgedReturn v r s := by
  unfold processReturn judgedReturn
  cases noVoltage v r s <;> rfl

/-- The levels of the valve after an accepted record (R81, R83). -/
def levelsAfter (v : Valve) (r : ReturnRecord) (s : State) : List LevelEntry :=
  if noVoltage v r s = true then s.monitors[v].levels
  else classifyLevels s.store.setup.levels s.now r s.monitors[v].levels

theorem judgedReturn_only (v : Valve) (r : ReturnRecord) (s : State) : OnlyMonitored s (judgedReturn v r s) := by
  have hmarked : ∀ nv, OnlyMonitored s (testCommutation v r nv (markAccepted v s)) := fun nv =>
    (onlyMonitored_setMonitor v _ s).trans (onlyMonitored_testCommutation v r nv _)
  unfold judgedReturn
  split
  · exact hmarked true
  · rw [classifyValve_eq]
    have hclassified := (hmarked false).trans (onlyMonitored_classifiedState v r _)
    split
    · exact hclassified.trans (onlyMonitored_raiseEdge .valveTrip _)
    · exact hclassified

/-- What the four steps keep of the valve: the mark set, the missing run and the lost flag cleared (R80). -/
theorem judgedReturn_monitor (v : Valve) (r : ReturnRecord) (s : State) :
    ∃ a, (judgedReturn v r s).monitors[v] = ⟨levelsAfter v r s, s.monitors[v].window, true, 0, false, a⟩ := by
  unfold judgedReturn levelsAfter
  split
  · obtain ⟨a, h, -⟩ := testCommutation_monitors v r true (markAccepted v s)
    exact ⟨a, by rw [h, markAccepted_monitor]⟩
  · obtain ⟨a, h, -⟩ := testCommutation_monitors v r false (markAccepted v s)
    have honly := onlyMonitored_testCommutation v r false (markAccepted v s)
    have hstore : (testCommutation v r false (markAccepted v s)).store = s.store := honly.store.trans rfl
    have hnow : (testCommutation v r false (markAccepted v s)).now = s.now := honly.now.trans rfl
    refine ⟨a, ?_⟩
    have hcell := classifiedState_monitor v r (testCommutation v r false (markAccepted v s))
    rw [h, markAccepted_monitor, hstore, hnow] at hcell
    rw [classifyValve_eq]
    split
    · exact (monitor_congr (raiseEdge_monitors _ _) v).trans hcell
    · exact hcell

theorem judgedReturn_monitor_ne {v w : Valve} (hw : w ≠ v) (r : ReturnRecord) (s : State) :
    (judgedReturn v r s).monitors[w] = s.monitors[w] := by
  have hmarked : ∀ nv, (testCommutation v r nv (markAccepted v s)).monitors[w] = s.monitors[w] := by
    intro nv
    obtain ⟨-, -, h⟩ := testCommutation_monitors v r nv (markAccepted v s)
    rw [h w hw, markAccepted_monitor_ne hw]
  unfold judgedReturn
  split
  · exact hmarked true
  · have hcell : (classifiedState v r (testCommutation v r false (markAccepted v s))).monitors[w] = s.monitors[w] :=
      (Vector.getElem_set_ne v.isLt w.isLt fun hv => hw (Fin.ext hv.symm)).trans (hmarked false)
    rw [classifyValve_eq]
    split
    · exact (monitor_congr (raiseEdge_monitors _ _) w).trans hcell
    · exact hcell

/-! ### The resolver after the four steps -/

/-- The record takes F_v of the valve further above R (R84). -/
def TripsValve (v : Valve) (r : ReturnRecord) (s : State) : Prop :=
  s.store.setup.levels.redundancy < outCount (levelsAfter v r s) ∧
    outCount s.monitors[v].levels < outCount (levelsAfter v r s)

theorem testCommutation_prot {v : Valve} {r : ReturnRecord} {nv : Bool}
    (h : nv = true → s.monitors[v].armed = true → s.store.setup.role ≠ .inverter) :
    (testCommutation v r nv s).prot = s.prot := by
  obtain he | he := testCommutation_spares h <;> rw [he]
  rfl

theorem testCommutation_unarmed {v : Valve} {r : ReturnRecord} {nv : Bool} (h : s.ctl.state ≠ .running) :
    testCommutation v r nv s = s := if_neg fun hr => h hr.2

/-- A trip takes a record with voltage (R81, R84). -/
theorem TripsValve.voltage {v : Valve} {r : ReturnRecord} (h : TripsValve v r s) : noVoltage v r s = false := by
  cases hn : noVoltage v r s with
  | false => rfl
  | true =>
    obtain ⟨-, hmore⟩ := h
    rw [levelsAfter, if_pos hn] at hmore
    exact absurd hmore (Nat.lt_irrefl _)

/-- The classification of a record with voltage, before the trip test: it leaves the resolver (R83). -/
theorem judgedReturn_voltage {v : Valve} {r : ReturnRecord} (hn : noVoltage v r s = false) :
    ∃ u, OnlyMonitored s u ∧ u.prot = s.prot ∧ (TripsValve v r s → judgedReturn v r s = raiseEdge .valveTrip u) ∧
      (¬TripsValve v r s → judgedReturn v r s = u) := by
  let tested := testCommutation v r false (markAccepted v s)
  have honly : OnlyMonitored s tested := (onlyMonitored_setMonitor v _ s).trans (onlyMonitored_testCommutation v r false _)
  have hprot : tested.prot = s.prot := (testCommutation_prot (s := markAccepted v s) (nv := false) nofun).trans rfl
  obtain ⟨a, hcell, -⟩ := testCommutation_monitors v r false (markAccepted v s)
  rw [markAccepted_monitor] at hcell
  have hbefore : failedCount tested v = outCount s.monitors[v].levels := by
    have hcount := congrArg (fun m : ValveMonitor => outCount m.levels) hcell
    exact hcount
  have hafter : failedCount (classifiedState v r tested) v = outCount (levelsAfter v r s) := by
    have hstore : tested.store = s.store := honly.store
    have hnow : tested.now = s.now := honly.now
    rw [failedCount, classifiedState_monitor, hstore, hnow, hcell, levelsAfter, if_neg (by rw [hn]; decide)]
  have hjudged : judgedReturn v r s = classifyValve v r tested := if_neg (by rw [hn]; decide)
  have htrips : (tested.store.setup.levels.redundancy < failedCount (classifiedState v r tested) v ∧
      failedCount tested v < failedCount (classifiedState v r tested) v) ↔ TripsValve v r s := by
    rw [hafter, hbefore, honly.store]
    exact Iff.rfl
  refine ⟨classifiedState v r tested, honly.trans (onlyMonitored_classifiedState v r _), hprot, fun h => ?_, fun h => ?_⟩
  · rw [hjudged, classifyValve_eq, if_pos (htrips.mpr h)]
  · rw [hjudged, classifyValve_eq, if_neg (mt htrips.mp h)]

/-- Outside RUNNING a record that trips no valve leaves the resolver (R82, R84). -/
theorem judgedReturn_prot {v : Valve} {r : ReturnRecord} (hc : s.ctl.state ≠ .running) (h : ¬TripsValve v r s) :
    (judgedReturn v r s).prot = s.prot := by
  cases hn : noVoltage v r s with
  | false =>
    obtain ⟨u, -, hu, -, hstay⟩ := judgedReturn_voltage hn
    rw [hstay h, hu]
  | true =>
    unfold judgedReturn
    rw [if_pos hn, testCommutation_unarmed (s := markAccepted v s) hc]
    rfl

end Sys2Proof.Machine


/-! PROOF. The close of a RETURN event: the trip that its edge calls for, the windows, and the probe answer (R84, R100, R106, R120
to R123). -/

namespace Sys2Proof.Machine

variable {s t m : State}

/-! ### What the close of an event leaves of the part -/

/-- The close of an event acts on the converter at most once: after a stop demand no other moves it (R127). -/
theorem settle_changes (m : State) :
    SameButResolver m (settle m) ∨ ∃ u, SameButResolver m u ∧ SameButResolver (stopState u) (settle m) := by
  refine settle_keeps (I := fun t => SameButResolver m t ∨ ∃ u, SameButResolver m u ∧ SameButResolver (stopState u) t)
    (fun a b hab h => ?_) (fun src a h => ?_) (.inl (.refl m))
  · obtain h | ⟨u, hu, h⟩ := h
    · exact .inl (h.trans hab)
    · exact .inr ⟨u, hu, h.trans hab⟩
  · obtain h | ⟨u, hu, h⟩ := h
    · exact .inr ⟨a, h, stopDemand_same src a⟩
    · refine .inr ⟨u, hu, ?_⟩
      rw [stopDemand_of_unmoved src (by rw [h.ctl]; exact stopState_unmoved u)]
      exact h

/-- A stop demand fires a valve at most once (R48, R127). -/
theorem stopState_monitor (s : State) (v : Valve) :
    (stopState s).monitors[v] = s.monitors[v] ∨ (stopState s).monitors[v] = advanceWindow s.monitors[v] := by
  have hfired : (bypassFired s).monitors[v] = s.monitors[v] ∨ (bypassFired s).monitors[v] = advanceWindow s.monitors[v] := by
    have h := bypassFired_valve s v
    split at h
    · exact .inr h.2.2
    · exact .inl h.2.2
  unfold stopState
  cases s.ctl.state with
  | running =>
    cases s.store.setup.role with
    | inverter => exact hfired
    | rectifier =>
      dsimp only
      split <;> exact .inl rfl
  | _ => exact .inl rfl

/-- The close of an event advances the window of a valve at most once. -/
theorem settle_monitor (m : State) (v : Valve) :
    (settle m).monitors[v] = m.monitors[v] ∨ (settle m).monitors[v] = advanceWindow m.monitors[v] := by
  obtain h | ⟨u, hu, h⟩ := settle_changes m
  · exact .inl (monitor_congr h.monitors v)
  · rw [monitor_congr h.monitors v, ← monitor_congr hu.monitors v]
    exact stopState_monitor u v

/-- A window closed with its record accepted leaves the missing run and the lost flag as they are; its number changes (R77,
R78). -/
theorem advanceWindow_accepted {n : ValveMonitor} (h : n.accepted = true) :
    (advanceWindow n).missingRun = n.missingRun ∧ (advanceWindow n).lost = n.lost ∧ (advanceWindow n).window ≠ n.window := by
  rw [advanceWindow_eq, if_pos (.inr h)]
  refine ⟨rfl, rfl, ?_⟩
  dsimp only
  split <;> omega

/-! ### Sources that only the host ends -/

theorem repeats_moved {b : Source} (h : hasSource s.prot.repeats b = true) (a : Source) :
    hasSource (moveToAction a s).prot.repeats b = true := by
  rw [moveToAction_prot]
  exact h

theorem repeats_ended {a b : Source} (h : hasSource s.prot.repeats b = true) (hab : a ≠ b) (c : EndCause) :
    hasSource (endSource a c s).prot.repeats b = true := by
  rw [endSource_prot]
  dsimp only
  split
  · rw [hasSource_putSource, if_neg hab]
    exact h
  · exact h

/-- The repeat mark of a source that only the host ends stays through the close of an event (R100, R109). -/
theorem repeats_close {b : Source} (hc : isClearedSource b = false) (hd : ∀ g, actionDuration g b = none) :
    CloseKept fun s => hasSource s.prot.repeats b = true where
  frame hp _ h := by rw [hp]; exact h
  becomesPending _ _ _ _ h := h
  withdrawn _ _ _ h := h
  cleared src s hk _ h := repeats_ended h (by rintro rfl; rw [hc] at hk; cases hk) _
  moved src s _ _ h := repeats_moved h src
  tripped s _ h := repeats_moved h .valveTrip
  timed src s x _ _ h := by
    rw [setActionTimer_repeats]
    exact repeats_moved h src
  timedOut src s x _ hdur h := by
    refine repeats_ended ?_ (by rintro rfl; rw [hd] at hdur; cases hdur) _
    rw [setActionTimer_repeats]
    exact repeats_moved h src

theorem tripLine_ended {a : Source} (h : s.prot.tripLine = true) (ha : a ≠ .valveTrip) (c : EndCause) :
    (endSource a c s).prot.tripLine = true := by
  rw [endSource_prot]
  simp [h, ha]

/-- The trip line stays asserted through the close of an event: only the host ends VALVE_TRIP (R106, R108). -/
theorem tripLine_close : CloseKept fun s => s.prot.tripLine = true where
  frame hp _ h := by rw [hp]; exact h
  becomesPending _ _ _ _ h := h
  withdrawn _ _ _ h := h
  cleared src s hk _ h := tripLine_ended h (by rintro rfl; cases hk) _
  moved src s _ _ h := by
    rw [moveToAction_prot]
    exact h
  tripped _ _ _ := rfl
  timed src s x _ _ h := by
    rw [setActionTimer_tripLine, moveToAction_prot]
    exact h
  timedOut src s x _ hdur h := by
    refine tripLine_ended ?_ (by rintro rfl; cases hdur) _
    rw [setActionTimer_tripLine, moveToAction_prot]
    exact h

/-! ### A trip that waits for its grant -/

/-- VALVE_TRIP is pending, not in action and not masked. -/
def Tripping (s : State) : Prop :=
  isPending s .valveTrip = true ∧ isInAction s .valveTrip = false ∧ hasSource s.prot.masks .valveTrip = false

theorem Tripping.of_prot (h : Tripping s) (hp : t.prot = s.prot) : Tripping t := by
  unfold Tripping
  rw [isPending_congr (congrArg _ hp), isInAction_congr (congrArg _ hp), hp]
  exact h

theorem Tripping.rereadConditions (h : Tripping s) : Tripping (rereadConditions s) := by
  obtain ⟨hp, ha, hm⟩ := h
  refine ⟨?_, ?_, ?_⟩
  · simp only [Machine.rereadConditions, List.foldl]
    simp only [isPending_rereadOne_of_ne (show Source.orderStale ≠ .valveTrip by decide),
      isPending_rereadOne_of_ne (show Source.levelDegraded ≠ .valveTrip by decide),
      isPending_rereadOne_of_ne (show Source.measureStale ≠ .valveTrip by decide),
      isPending_rereadOne_of_ne (show Source.linkLost ≠ .valveTrip by decide),
      isPending_rereadOne_of_ne (show Source.phaseLost ≠ .valveTrip by decide)]
    exact hp
  · simp only [Machine.rereadConditions, List.foldl]
    simp only [isInAction_rereadOne_of_ne (show Source.orderStale ≠ .valveTrip by decide),
      isInAction_rereadOne_of_ne (show Source.levelDegraded ≠ .valveTrip by decide),
      isInAction_rereadOne_of_ne (show Source.measureStale ≠ .valveTrip by decide),
      isInAction_rereadOne_of_ne (show Source.linkLost ≠ .valveTrip by decide),
      isInAction_rereadOne_of_ne (show Source.phaseLost ≠ .valveTrip by decide)]
    exact ha
  · rw [rereadConditions_masks]
    exact hm

theorem Tripping.changeState (h : Tripping s) (c : ConvState) (u : StateCause) (v : Option Valve)
    (hp : t.prot = s.prot) : Tripping (changeState c u v t) := by
  unfold Machine.changeState
  refine Tripping.rereadConditions (Tripping.of_prot h ?_)
  rw [notifyState, notify_prot]
  exact hp

theorem Tripping.enterBlocked (h : Tripping s) (u : StateCause) (v : Option Valve) : Tripping (enterBlocked u v s) := by
  simp only [Machine.enterBlocked]
  exact Tripping.changeState h _ _ _ rfl

/-- A trip that waits is granted first, whatever else waits or is in action (R102). -/
theorem Tripping.nextGrant (h : Tripping s) : nextGrant s = some .valveTrip := by
  obtain ⟨hp, ha, hm⟩ := h
  have hf : highestPending s = some .valveTrip := by
    rw [highestPending, allSources, List.find?_cons_of_pos]
    rw [hp, hm]
    rfl
  have hout : outranksAction s .valveTrip = true := by
    rw [outranksAction, List.all_eq_true]
    intro a hmem
    have hne : a.source ≠ .valveTrip := by
      intro he
      have hin : isInAction s .valveTrip = true := List.any_eq_true.mpr ⟨a, hmem, decide_eq_true he⟩
      exact Bool.false_ne_true (ha.symm.trans hin)
    refine decide_eq_true ?_
    cases hsrc : a.source with
    | valveTrip => exact absurd hsrc hne
    | _ => decide
  unfold Machine.nextGrant
  rw [hf]
  cases hn : s.store.setup.nesting <;> simp [hout]

/-- The close of an event grants a trip that waits: it is then in action, with the trip line asserted (R102, R106). -/
theorem Tripping.settle (h : Tripping s) :
    isInAction (settle s) .valveTrip = true ∧ (settle s).prot.tripLine = true := by
  have hstop : IsStop .valveTrip := .inl rfl
  rw [settle_of_next h.rereadConditions.nextGrant]
  refine ⟨hstop.lasts.grantLoop 31 _ (hstop.lasts.stopDemand ?_ _), tripLine_close.grantLoop 31 _ (tripLine_close.stopDemand ?_ _)⟩
  · exact inAction_of_prot (s := moveToAction .valveTrip (Machine.rereadConditions s)) (by simp) rfl
  · rfl

/-! ### The probe answer -/

/-- The four ends of a probe answer (R120 to R123). -/
theorem probeAnswer_cases (v : Valve) (nv : Bool) (s : State) :
    probeAnswer v nv s = s ∨ (∃ c, probeAnswer v nv s = enterBlocked c (some v) s) ∨ probeAnswer v nv s = joinReady v s ∨
      probeAnswer v nv s = enterRunning .ready (joinReady v s) := by
  unfold probeAnswer
  split
  · exact .inl rfl
  · split
    · exact .inr (.inl ⟨_, rfl⟩)
    · split
      · exact .inr (.inl ⟨_, rfl⟩)
      · dsimp only
        split
        · exact .inr (.inr (.inr rfl))
        · exact .inr (.inr (.inl rfl))

/-- The answer that ends the deblock (R121). -/
theorem probeAnswer_fails {v : Valve} {nv : Bool} (hc : s.ctl.state = .precheck)
    (h : nv = true ∨ s.store.setup.levels.redundancy < failedCount s v) :
    probeAnswer v nv s = enterBlocked (if nv = true then .noVoltage else .redundancy) (some v) s := by
  unfold probeAnswer
  rw [if_neg (not_not.mpr hc)]
  cases nv with
  | true => rfl
  | false => exact if_pos (h.resolve_left Bool.false_ne_true)

/-- The answer that makes its valve ready (R120), with RUNNING at the twelfth (R123). -/
theorem probeAnswer_joins {v : Valve} (hc : s.ctl.state = .precheck)
    (h : failedCount s v ≤ s.store.setup.levels.redundancy) : probeAnswer v false s =
      if (joinReady v s).ctl.ready.toList.all id = true then enterRunning .ready (joinReady v s) else joinReady v s := by
  unfold probeAnswer
  rw [if_neg (not_not.mpr hc), if_neg Bool.false_ne_true, if_neg (Nat.not_lt.mpr h)]

theorem joinReady_complete {v : Valve} :
    (joinReady v s).ctl.ready.toList.all id = true ↔ ∀ w : Valve, w ≠ v → s.ctl.ready[w] = true := by
  rw [List.all_eq_true]
  refine ⟨fun h w hw => ?_, fun h b hb => ?_⟩
  · have hmem : (joinReady v s).ctl.ready[w] ∈ (joinReady v s).ctl.ready.toList := by simp
    have hcell : (joinReady v s).ctl.ready[w] = s.ctl.ready[w] :=
      Vector.getElem_set_ne v.isLt w.isLt fun hv => hw (Fin.ext hv.symm)
    rw [← hcell]
    exact h _ hmem
  · obtain ⟨i, hi, rfl⟩ := List.mem_iff_getElem.mp hb
    have hi' : i < 12 := by simpa using hi
    by_cases hv : i = v.val
    · subst hv
      simp [joinReady]
    · have hrest := h ⟨i, hi'⟩ fun he => hv (congrArg Fin.val he)
      have hne : v.val ≠ i := fun he => hv he.symm
      simpa [joinReady, Vector.getElem_set, hne] using hrest

theorem CloseKept.enterRunning {J : State → Prop} (k : CloseKept J) (h : J s) (u : StateCause) : J (enterRunning u s) := by
  simp only [Machine.enterRunning]
  refine k.changeState (s := s) ?_ ?_ h .running u none
  · rfl
  · rfl

/-- What every operation of the close keeps, the probe answer keeps. -/
theorem CloseKept.probeAnswer {J : State → Prop} (k : CloseKept J) (h : J s) (v : Valve) (nv : Bool) :
    J (probeAnswer v nv s) := by
  have hjoined : J (joinReady v s) := k.frame (s := s) (t := joinReady v s) rfl rfl h
  obtain he | ⟨c, he⟩ | he | he := probeAnswer_cases v nv s
  · rw [he]
    exact h
  · rw [he]
    exact k.enterBlocked h c _
  · rw [he]
    exact hjoined
  · rw [he]
    exact k.enterRunning hjoined .ready

theorem Tripping.enterRunning (h : Tripping s) (u : StateCause) : Tripping (enterRunning u s) := by
  simp only [Machine.enterRunning]
  exact Tripping.changeState h _ _ _ rfl

theorem Tripping.probeAnswer (h : Tripping s) (v : Valve) (nv : Bool) : Tripping (probeAnswer v nv s) := by
  obtain he | ⟨c, he⟩ | he | he := probeAnswer_cases v nv s
  · rw [he]
    exact h
  · rw [he]
    exact h.enterBlocked c _
  · rw [he]
    exact h.of_prot rfl
  · rw [he]
    exact Tripping.enterRunning (s := joinReady v s) (h.of_prot rfl) .ready

/-- A probe answer writes of a valve at most its armed flag. -/
theorem probeAnswer_monitor (v w : Valve) (nv : Bool) (s : State) :
    ∃ a, (probeAnswer v nv s).monitors[w] = { s.monitors[w] with armed := a } := by
  obtain he | ⟨c, he⟩ | he | he := probeAnswer_cases v nv s
  · exact ⟨s.monitors[w].armed, monitor_congr (congrArg State.monitors he) w⟩
  · exact ⟨s.monitors[w].armed, monitor_congr ((congrArg State.monitors he).trans (enterBlocked_same c _ s).monitors) w⟩
  · exact ⟨s.monitors[w].armed, monitor_congr (congrArg State.monitors he) w⟩
  · have hsame := (congrArg State.monitors he).trans (enterRunning_same .ready (joinReady v s)).monitors
    refine ⟨false, (monitor_congr hsame w).trans ?_⟩
    exact Vector.getElem_map _ w.isLt

/-- A probe answer writes neither the PRU, the store, the measurement, the snapshot nor the time. -/
theorem probeAnswer_frame {α : Type} (f : State → α) (hblock : ∀ s, f (blockedState s) = f s)
    (hrun : ∀ s, f (runningState s) = f s) (hjoin : ∀ v s, f (joinReady v s) = f s)
    (hsame : ∀ {s t}, SameButResolver s t → f t = f s) (v : Valve) (nv : Bool) (s : State) :
    f (probeAnswer v nv s) = f s := by
  obtain he | ⟨c, he⟩ | he | he := probeAnswer_cases v nv s
  · rw [he]
  · rw [he, hsame (enterBlocked_same c _ s), hblock]
  · rw [he, hjoin]
  · rw [he, hsame (enterRunning_same .ready _), hrun, hjoin]

theorem enterRunning_sends (u : StateCause) (h : s.port.outgoing.length < 32) :
    (s.port.outgoing ++ [.noticeState s.ctl.state .running u none s.now]) <+: (enterRunning u s).port.outgoing := by
  simp only [enterRunning]
  exact changeState_sends_from .running u none rfl rfl rfl h

end Sys2Proof.Machine


/-! PROOF. RETURN records (R79 to R86, R120 to R123). -/

namespace Sys2Proof.Machine

variable {s t : State} {v : Valve} {r : ReturnRecord}

/-! ### What the event of an accepted record leaves -/

theorem processReturn_of_window (h : r.window ≠ 0) : processReturn v r s = judgedReturn v r s := by
  rw [processReturn_eq, if_neg h]

theorem processReturn_of_probe (h : r.window = 0) :
    processReturn v r s = probeAnswer v (noVoltage v r s) (judgedReturn v r s) := by
  rw [processReturn_eq, if_pos h]

/-- The probe answer of the record, when there is one, writes of a valve at most its armed flag. -/
theorem processReturn_monitor_judged (v w : Valve) (r : ReturnRecord) (s : State) :
    ∃ a, (processReturn v r s).monitors[w] = { (judgedReturn v r s).monitors[w] with armed := a } := by
  by_cases h : r.window = 0
  · obtain ⟨a, ha⟩ := probeAnswer_monitor v w (noVoltage v r s) (judgedReturn v r s)
    exact ⟨a, (monitor_congr (congrArg State.monitors (processReturn_of_probe h)) w).trans ha⟩
  · exact ⟨_, monitor_congr (congrArg State.monitors (processReturn_of_window h)) w⟩

/-- What the event of an accepted record leaves of its valve, short of the grants (R80, R83). -/
theorem processReturn_monitor (v : Valve) (r : ReturnRecord) (s : State) :
    ∃ a, (processReturn v r s).monitors[v] = ⟨levelsAfter v r s, s.monitors[v].window, true, 0, false, a⟩ := by
  obtain ⟨a, ha⟩ := processReturn_monitor_judged v v r s
  obtain ⟨b, hb⟩ := judgedReturn_monitor v r s
  exact ⟨a, by rw [ha, hb]⟩

theorem processReturn_levels (v : Valve) (r : ReturnRecord) (s : State) :
    (settle (processReturn v r s)).monitors[v].levels = levelsAfter v r s := by
  obtain ⟨a, ha⟩ := processReturn_monitor v r s
  exact (settle_levels _ v.val v.isLt).trans (congrArg ValveMonitor.levels ha)

theorem processReturn_levels_ne {w : Valve} (h : w ≠ v) :
    (settle (processReturn v r s)).monitors[w].levels = s.monitors[w].levels := by
  obtain ⟨a, ha⟩ := processReturn_monitor_judged v w r s
  rw [judgedReturn_monitor_ne h] at ha
  have hlevels := congrArg ValveMonitor.levels ha
  exact (settle_levels _ w.val w.isLt).trans hlevels

/-- The missing run and the lost flag are cleared, and the mark is set unless the window has moved on (R80, R77). -/
theorem processReturn_marked (v : Valve) (r : ReturnRecord) (s : State) :
    (settle (processReturn v r s)).monitors[v].missingRun = 0 ∧ (settle (processReturn v r s)).monitors[v].lost = false ∧
      ((settle (processReturn v r s)).monitors[v].window = s.monitors[v].window →
        (settle (processReturn v r s)).monitors[v].accepted = true) := by
  obtain ⟨a, ha⟩ := processReturn_monitor v r s
  obtain h | h := settle_monitor (processReturn v r s) v
  · rw [h, ha]
    exact ⟨rfl, rfl, fun _ => rfl⟩
  · obtain ⟨hrun, hlost, hmoved⟩ := advanceWindow_accepted (n := (processReturn v r s).monitors[v]) (by rw [ha])
    rw [h, hrun, hlost]
    refine ⟨by rw [ha], by rw [ha], fun hw => absurd hw ?_⟩
    rw [show s.monitors[v].window = (processReturn v r s).monitors[v].window by rw [ha]]
    exact hmoved

/-- The blocks that no step of a record writes. -/
theorem processReturn_frame {α : Type} (f : State → α) (hblock : ∀ s, f (blockedState s) = f s)
    (hrun : ∀ s, f (runningState s) = f s) (hjoin : ∀ v s, f (joinReady v s) = f s)
    (hsame : ∀ {s t}, SameButResolver s t → f t = f s) (honly : ∀ {s t}, OnlyMonitored s t → f t = f s)
    (v : Valve) (r : ReturnRecord) (s : State) : f (processReturn v r s) = f s := by
  rw [← honly (judgedReturn_only v r s)]
  by_cases h : r.window = 0
  · rw [processReturn_of_probe h]
    exact probeAnswer_frame f hblock hrun hjoin hsame v _ _
  · rw [processReturn_of_window h]

theorem settle_processReturn_frame (v : Valve) (r : ReturnRecord) (s : State) :
    (settle (processReturn v r s)).pru = s.pru ∧ (settle (processReturn v r s)).store = s.store ∧
      (settle (processReturn v r s)).meas = s.meas ∧ (settle (processReturn v r s)).snapshot = s.snapshot ∧
      (settle (processReturn v r s)).now = s.now := by
  rw [settle_pru, settle_store, settle_meas, settle_snapshot, settle_now]
  refine ⟨?_, ?_, ?_, ?_, ?_⟩
  · exact processReturn_frame State.pru (fun _ => rfl) (fun _ => rfl) (fun _ _ => rfl) (·.pru) (·.pru) v r s
  · exact processReturn_frame State.store (fun _ => rfl) (fun _ => rfl) (fun _ _ => rfl) (·.store) (·.store) v r s
  · exact processReturn_frame State.meas (fun _ => rfl) (fun _ => rfl) (fun _ _ => rfl) (·.meas) (·.meas) v r s
  · exact processReturn_frame State.snapshot (fun _ => rfl) (fun _ => rfl) (fun _ _ => rfl) (·.snapshot) (·.snapshot) v r s
  · exact processReturn_frame State.now (fun _ => rfl) (fun _ => rfl) (fun _ _ => rfl) (·.now) (·.now) v r s

/-! ### The levels -/

/-- The no-voltage test by the counts of the record and of the levels (R81). -/
theorem noVoltage_eq (v : Valve) (r : ReturnRecord) (s : State) : noVoltage v r s =
    decide (((List.range s.monitors[v].levels.length).countP fun i =>
        (s.monitors[v].levels[i]?.any fun e => isLive e.state) && r.present.getMsbD i) <
      (s.store.setup.levels.nL - s.monitors[v].levels.countP fun e => !isLive e.state) / 2) := by
  rw [noVoltage, isNoVoltage, presentCount_eq]
  rfl

theorem levelsAfter_of_noVoltage (h : noVoltage v r s = true) : levelsAfter v r s = s.monitors[v].levels := if_pos h

theorem levelsAfter_of_voltage (h : noVoltage v r s = false) :
    levelsAfter v r s = classifyLevels s.store.setup.levels s.now r s.monitors[v].levels := if_neg (by rw [h]; decide)

/-! ### The trip -/

/-- A record that trips raises the edge of VALVE_TRIP: the repeat mark of one in action, and otherwise a trip that waits
(R84, R100). -/
theorem processReturn_trips (h : TripsValve v r s) :
    (isInAction s .valveTrip = true → isInAction (processReturn v r s) .valveTrip = true ∧
      hasSource (processReturn v r s).prot.repeats .valveTrip = true) ∧
    (isInAction s .valveTrip = false → hasSource s.prot.masks .valveTrip = false → Tripping (processReturn v r s)) := by
  obtain ⟨u, -, hu, hraise, -⟩ := judgedReturn_voltage (v := v) (r := r) (s := s) h.voltage
  have hacts : isInAction u .valveTrip = isInAction s .valveTrip := isInAction_congr (congrArg _ hu) _
  have hjudged := hraise h
  refine ⟨fun hi => ?_, fun hi hm => ?_⟩
  · rw [raiseEdge_of_inAction (hacts.trans hi)] at hjudged
    have hin : isInAction (judgedReturn v r s) .valveTrip = true := by
      rw [hjudged]
      exact hacts.trans hi
    have hmark : hasSource (judgedReturn v r s).prot.repeats .valveTrip = true := by
      rw [hjudged]
      simp
    by_cases hw : r.window = 0
    · rw [processReturn_of_probe hw]
      exact ⟨(inAction_close rfl fun _ => rfl).probeAnswer hin v _, (repeats_close rfl fun _ => rfl).probeAnswer hmark v _⟩
    · rw [processReturn_of_window hw]
      exact ⟨hin, hmark⟩
  · rw [raiseEdge_of_not (hacts.trans hi)] at hjudged
    have hwaits : Tripping (judgedReturn v r s) := by
      rw [hjudged]
      refine ⟨by simp, by simpa using hacts.trans hi, ?_⟩
      change hasSource u.prot.masks .valveTrip = false
      rw [hu]
      exact hm
    by_cases hw : r.window = 0
    · rw [processReturn_of_probe hw]
      exact hwaits.probeAnswer v _
    · rw [processReturn_of_window hw]
      exact hwaits

/-- Away from PRECHECK the stop demand of the trip acts on the converter (R104, R127). -/
theorem processReturn_stops (h : TripsValve v r s) (hw : r.window ≠ 0) (hi : s.prot.inAction = [])
    (hm : hasSource s.prot.masks .valveTrip = false) :
    StopTaken s (settle (processReturn v r s)) .valveTrip s.now := by
  have hnot : isInAction s .valveTrip = false := by rw [isInAction, hi]; rfl
  have hwaits := (processReturn_trips h).2 hnot hm
  rw [processReturn_of_window hw] at hwaits ⊢
  obtain ⟨u, -, hu, hraise, -⟩ := judgedReturn_voltage (v := v) (r := r) (s := s) h.voltage
  have hjudged := hraise h
  rw [raiseEdge_of_not ((isInAction_congr (congrArg _ hu) _).trans hnot)] at hjudged
  have hnone : (judgedReturn v r s).prot.inAction = [] := by
    rw [hjudged]
    change u.prot.inAction = []
    rw [hu]
    exact hi
  have honly := judgedReturn_only v r s
  have htaken := settle_stopTaken (m := judgedReturn v r s) (.inl rfl) hnone hwaits.rereadConditions.nextGrant
  rw [honly.now] at htaken
  exact htaken.congr (by rw [honly.ctl]) honly.store (by rw [honly.port])

/-- Outside RUNNING a record that does not trip leaves an idle VALVE_TRIP idle (R82, R84). -/
theorem processReturn_idle (h : ¬TripsValve v r s) (hc : s.ctl.state ≠ .running) (hi : Idle .valveTrip s) :
    Idle .valveTrip (settle (processReturn v r s)) := by
  have hprot := judgedReturn_prot hc h
  have hjudged : Idle .valveTrip (judgedReturn v r s) :=
    hi.of_prot (congrArg _ hprot) (congrArg _ hprot)
  refine Idle.settle rfl ?_
  by_cases hw : r.window = 0
  · rw [processReturn_of_probe hw]
    exact (idle_close rfl).probeAnswer hjudged v _
  · rw [processReturn_of_window hw]
    exact hjudged

/-! ### The probe answer whole -/

theorem failedCount_judged (v : Valve) (r : ReturnRecord) (s : State) :
    failedCount (judgedReturn v r s) v = outCount (levelsAfter v r s) := by
  obtain ⟨a, ha⟩ := judgedReturn_monitor v r s
  rw [failedCount, ha]

/-- A probe answer without voltage, or above R, ends the deblock (R121). -/
theorem settle_probe_fails (hw : r.window = 0) (hc : s.ctl.state = .precheck)
    (h : noVoltage v r s = true ∨ s.store.setup.levels.redundancy < outCount (levelsAfter v r s)) :
    let t := settle (processReturn v r s)
    SameButResolver (blockedState (judgedReturn v r s)) t ∧
      (s.port.outgoing.length < 32 → (s.port.outgoing ++ [.noticeState .precheck .blocked
        (if noVoltage v r s = true then .noVoltage else .redundancy) (some v) s.now]) <+: t.port.outgoing) := by
  have honly := judgedReturn_only v r s
  have hanswer : processReturn v r s =
      enterBlocked (if noVoltage v r s = true then .noVoltage else .redundancy) (some v) (judgedReturn v r s) := by
    rw [processReturn_of_probe hw]
    refine probeAnswer_fails (by rw [honly.ctl]; exact hc) (h.imp id fun hr => ?_)
    rw [honly.store, failedCount_judged]
    exact hr
  dsimp only
  rw [hanswer]
  refine ⟨(enterBlocked_same _ _ _).trans (settle_quiet (enterBlocked_quiet _ _ _)), fun hlen => settle_sends ?_⟩
  have hsend := enterBlocked_sends (s := judgedReturn v r s) (if noVoltage v r s = true then .noVoltage else .redundancy)
    (some v) (by rw [honly.port]; exact hlen)
  rw [honly.port, honly.ctl, honly.now, hc] at hsend
  exact hsend

/-- A probe answer within R makes its valve ready, and as the twelfth takes the converter to RUNNING (R120, R123). -/
theorem processReturn_joins (hw : r.window = 0) (hc : s.ctl.state = .precheck) (hn : noVoltage v r s = false)
    (hr : outCount (levelsAfter v r s) ≤ s.store.setup.levels.redundancy) : processReturn v r s =
      if (joinReady v (judgedReturn v r s)).ctl.ready.toList.all id = true then
        enterRunning .ready (joinReady v (judgedReturn v r s))
      else joinReady v (judgedReturn v r s) := by
  have honly := judgedReturn_only v r s
  rw [processReturn_of_probe hw, hn]
  refine probeAnswer_joins (by rw [honly.ctl]; exact hc) ?_
  rw [honly.store, failedCount_judged]
  exact hr

/-- A record within R leaves a clear resolver clear in PRECHECK. -/
theorem joinReady_clear (hc : s.ctl.state = .precheck) (hcalm : Calm s)
    (hr : outCount (levelsAfter v r s) ≤ s.store.setup.levels.redundancy) : Clear (joinReady v (judgedReturn v r s)) := by
  have honly := judgedReturn_only v r s
  have hprot : (judgedReturn v r s).prot = s.prot :=
    judgedReturn_prot (by rw [hc]; decide) fun h => absurd h.1 (Nat.not_lt.mpr hr)
  refine Clear.congr (s := s) (hcalm.clear (by rw [hc]; rfl)) (congrArg _ hprot) ?_ ?_
  · exact congrArg Pru.lock honly.pru
  · exact congrArg Port.linkSilent honly.port

/-- A valve that is ready before the last only joins the ready set (R120). -/
theorem settle_probe_joins (hw : r.window = 0) (hc : s.ctl.state = .precheck) (hn : noVoltage v r s = false)
    (hr : outCount (levelsAfter v r s) ≤ s.store.setup.levels.redundancy) (hcalm : Calm s)
    (hwait : ∃ w : Valve, w ≠ v ∧ s.ctl.ready[w] = false) :
    (settle (processReturn v r s)).ctl = { s.ctl with ready := s.ctl.ready.set v true } := by
  have honly := judgedReturn_only v r s
  have hnot : ¬(joinReady v (judgedReturn v r s)).ctl.ready.toList.all id = true := by
    obtain ⟨w, hwv, hready⟩ := hwait
    rw [joinReady_complete, honly.ctl]
    exact fun hall => Bool.false_ne_true (hready.symm.trans (hall w hwv))
  rw [processReturn_joins hw hc hn hr, if_neg hnot, (settle_quiet (.inl (joinReady_clear hc hcalm hr).calm)).ctl]
  change { (judgedReturn v r s).ctl with ready := (judgedReturn v r s).ctl.ready.set v true } = _
  rw [honly.ctl]

/-- The twelfth valve takes the converter to RUNNING (R123). -/
theorem settle_probe_completes (hw : r.window = 0) (hc : s.ctl.state = .precheck) (hn : noVoltage v r s = false)
    (hr : outCount (levelsAfter v r s) ≤ s.store.setup.levels.redundancy) (hcalm : Calm s)
    (hall : ∀ w : Valve, w ≠ v → s.ctl.ready[w] = true) :
    let t := settle (processReturn v r s)
    SameButResolver (runningState (joinReady v (judgedReturn v r s))) t ∧
      (s.port.outgoing.length < 32 →
        (s.port.outgoing ++ [.noticeState .precheck .running .ready none s.now]) <+: t.port.outgoing) := by
  have honly := judgedReturn_only v r s
  have hdone : (joinReady v (judgedReturn v r s)).ctl.ready.toList.all id = true := by
    rw [joinReady_complete, honly.ctl]
    exact hall
  have hquiet : Quiet (enterRunning .ready (joinReady v (judgedReturn v r s))) :=
    .inl ((joinReady_clear hc hcalm hr).enterRunning .ready)
  dsimp only
  rw [processReturn_joins hw hc hn hr, if_pos hdone]
  refine ⟨(enterRunning_same _ _).trans (settle_quiet hquiet), fun hlen => settle_sends ?_⟩
  have hport : (joinReady v (judgedReturn v r s)).port = s.port := honly.port
  have hstate : (joinReady v (judgedReturn v r s)).ctl.state = .precheck := (congrArg Controller.state honly.ctl).trans hc
  have hnow : (joinReady v (judgedReturn v r s)).now = s.now := honly.now
  have hsend := enterRunning_sends (s := joinReady v (judgedReturn v r s)) .ready (by rw [hport]; exact hlen)
  rw [hport, hstate, hnow] at hsend
  exact hsend

end Sys2Proof.Machine


/-! PROOF. RETURN records: the obligation (R79 to R86). -/

namespace Sys2Proof.Machine

variable {s t : State} {v : Valve} {r : ReturnRecord}

/-- A record that its line does not expect is discarded (R79). -/
theorem exec_returnRecord_discarded (hb : betweenFrames (.ret v) s = true) (h : r.valve ≠ valveNumber v ∨
    r.window ≠ s.monitors[v].window ∨ s.monitors[v].accepted = true ∨ (r.window = 0 ∧ s.ctl.state ≠ .precheck)) :
    exec (.returnRecord v r) s = .next (frameEnded (.ret v) s) := by
  have hnot : ¬acceptsReturn v r s = true := by
    rw [acceptsReturn_iff]
    rintro ⟨hv, hw, ha, hor⟩
    obtain h | h | h | ⟨h0, hc⟩ := h
    · exact h hv
    · exact h hw
    · exact Bool.false_ne_true (ha.symm.trans h)
    · exact hor.elim (· h0) hc
  rw [exec_returnRecord hb, if_neg hnot]

/-- The classification of a record with voltage, level by level (R83). -/
theorem levelsAfter_classified (hn : noVoltage v r s = false) :
    let lv := s.store.setup.levels
    let changed := fun (e : LevelEntry) (state : LevelState) =>
      if e.state = state then e.lastChange else some s.now
    (levelsAfter v r s).length = s.monitors[v].levels.length ∧
      ∀ i e, s.monitors[v].levels[i]? = some e →
        (isLive e.state = false → (levelsAfter v r s)[i]? = some e) ∧
        (isLive e.state = true →
          (i + 1 ∈ r.protective →
            let state := if lv.pfLimit ≤ e.pfRun + 1 then LevelState.failedNofire else .suspect
            (levelsAfter v r s)[i]? = some ⟨state, 0, e.pfRun + 1, min 65535 (e.pfTotal + 1), changed e state⟩) ∧
          (i + 1 ∉ r.protective → r.present.getMsbD i = true →
            (levelsAfter v r s)[i]? = some ⟨.healthy, 0, 0, e.pfTotal, changed e .healthy⟩) ∧
          (i + 1 ∉ r.protective → r.present.getMsbD i = false →
            let state := if lv.missLimit ≤ e.missRun + 1 then LevelState.failedShort else .suspect
            (levelsAfter v r s)[i]? = some ⟨state, e.missRun + 1, e.pfRun, e.pfTotal, changed e state⟩)) := by
  intro lv changed
  rw [levelsAfter_of_voltage hn]
  refine ⟨classifyLevels_length _ _ _ _, fun i e he => ?_⟩
  have hcell := classifyLevels_getElem? lv s.now r he
  refine ⟨fun hout => ?_, fun hlive => ⟨fun hp => ?_, fun hp hm => ?_, fun hp hm => ?_⟩⟩
  · rw [hcell, classifyLevel_out _ _ _ _ hout]
  · rw [hcell, classifyLevel_protective _ _ _ _ hlive hp]
    rfl
  · rw [hcell, classifyLevel_present _ _ _ _ hlive hp hm]
    rfl
  · rw [hcell, classifyLevel_missing _ _ _ _ hlive hp hm]
    rfl

/-- Settles O44: the discard; the classification, which the close of the event keeps; the trip; and the probe answer. -/
theorem returnDiscardedOrClassified : Obligations.ReturnDiscardedOrClassified := by
  intro s line r hb
  refine ⟨exec_returnRecord_discarded hb, fun hv hw ha hor => ?_⟩
  intro lv levels failed count changed
  let heard := frameEnded (.ret line) s
  have hexec : exec (.returnRecord line r) s = .next (settle (processReturn line r heard)) := by
    rw [exec_returnRecord hb, if_pos (acceptsReturn_iff.mpr ⟨hv, hw, ha, hor⟩)]
  obtain ⟨hpru, hstore, hmeas, hsnapshot, hnow⟩ := settle_processReturn_frame line r heard
  obtain ⟨hrun, hlost, hmark⟩ := processReturn_marked line r heard
  have hlevels := processReturn_levels line r heard
  have hnv : noVoltage line r heard = decide (count < (lv.nL - failed) / 2) := noVoltage_eq line r heard
  refine ⟨_, hexec, hpru, hstore, hmeas, hsnapshot, hnow, fun w hne => processReturn_levels_ne hne, fun hlow => ?_,
    fun henough => ?_, hrun, hlost, hmark, ?_⟩
  · rw [hlevels, levelsAfter_of_noVoltage (hnv.trans (decide_eq_true hlow))]
    rfl
  · rw [hlevels]
    exact levelsAfter_classified (s := heard) (hnv.trans (decide_eq_false (Nat.not_lt.mpr henough)))
  · rw [hlevels]
    intro after noVolts
    have hprecheck : r.window = 0 → s.ctl.state = .precheck := fun h0 => hor.resolve_left (· h0)
    refine ⟨fun hmore hworse => ?_, fun hnot hc hidle hpending => ?_, fun h0 => ⟨fun hfails => ?_, fun hvolts hwithin hcalm => ?_⟩⟩
    · have htrips : TripsValve line r heard := ⟨hmore, hworse⟩
      obtain ⟨hacts, hwaits⟩ := processReturn_trips htrips
      have hclosed : isInAction s .valveTrip = false → hasSource s.prot.masks .valveTrip = false →
          isInAction (settle (processReturn line r heard)) .valveTrip = true ∧
            (settle (processReturn line r heard)).prot.tripLine = true := fun hi hm => (hwaits hi hm).settle
      refine ⟨fun hm => ?_, fun hi => ?_, fun hi hm => (hclosed hi hm).2, fun _ hi hm hc => ?_⟩
      · cases hi : isInAction s .valveTrip with
        | true => exact (inAction_close rfl fun _ => rfl).settle (hacts hi).1
        | false => exact (hclosed hi hm).1
      · exact (repeats_close rfl fun _ => rfl).settle (hacts hi).2
      · exact (processReturn_stops htrips (hor.resolve_right hc) hi hm).congr rfl rfl rfl
    · obtain ⟨hp, ha⟩ := processReturn_idle (s := heard) (v := line) (r := r) hnot hc ⟨hpending, hidle⟩
      exact ⟨ha, hp⟩
    · have hcause : noVoltage line r heard = true ∨ heard.store.setup.levels.redundancy < outCount (levelsAfter line r heard) :=
        hfails.imp hnv.trans id
      obtain ⟨hsame, hsends⟩ := settle_probe_fails (s := heard) h0 (hprecheck h0) hcause
      rw [hnv] at hsends
      rw [hsame.ctl, hsame.cal, hsame.gens]
      exact ⟨rfl, rfl, rfl, rfl, fun w => Vector.getElem_replicate _, hsends⟩
    · have hn : noVoltage line r heard = false := hnv.trans hvolts
      refine ⟨settle_probe_joins (s := heard) h0 (hprecheck h0) hn hwithin hcalm, fun hall => ?_⟩
      obtain ⟨hsame, hsends⟩ := settle_probe_completes (s := heard) h0 (hprecheck h0) hn hwithin hcalm hall
      have honly := judgedReturn_only line r heard
      refine ⟨?_, ?_, fun w => ?_, hsends⟩
      · rw [hsame.ctl]
        change { (judgedReturn line r heard).ctl with
          state := .running
          precheckTimer := none
          ready := Vector.replicate 12 false
          lastY := none
          lastD := none } = _
        rw [honly.ctl]
        rfl
      · rw [hsame.acu]
        change { (judgedReturn line r heard).acu with
          aPrev := (judgedReturn line r heard).store.setup.angles.alphaStart } = _
        rw [honly.acu, honly.store]
        rfl
      · rw [monitor_congr hsame.monitors w]
        exact congrArg ValveMonitor.armed (Vector.getElem_map _ w.isLt)

end Sys2Proof.Machine
